-- ==== Sys2Proof/Word.lean ====
section
/-! DEFINITION. The fixed widths of spec/10_state.md R20 and the 32-bit register word of spec/00_scope.md R13. -/

namespace Sys2Proof

/-- A register word of the bus interface, numbered from its least significant bit (R13). -/
abbrev Word := BitVec 32

/-- A byte of a vector's byte sequence (spec/41_datapath_primitives.md R125). -/
abbrev Byte := BitVec 8

/-- A 64-bit data block or single-length cipher key (R20). -/
abbrev Block := BitVec 64

/-- A 128-bit key: BDK, IPEK, transaction key, usage key, derived data key (R20). -/
abbrev Key := BitVec 128

/-- The 80-bit key serial number: 59-bit static prefix, then the 21-bit counter (R20). -/
abbrev Ksn := BitVec 80

/-- The 21-bit transaction counter, KSN bits [59:80) (R20). -/
abbrev Counter := BitVec 21

end Sys2Proof
end

