-- ==== Sys2Proof/Config.lean ====
section
/-! DEFINITION. The implementation parameters of spec/00_scope.md R5 to R9, as plain data: the block cipher, the six
usage masks, the over-length policy and the window's base address. A machine carries its build's parameters in
`State.cfg`, which no step changes, so that a statement about every state covers every build (log 2). -/

namespace Sys2Proof

/-- The six key usages, in the order of their codes (spec/30_encoding.md R85). -/
inductive Usage where
  | pinRequest
  | pinResponse
  | macRequest
  | macResponse
  | dataRequest
  | dataResponse
deriving DecidableEq, Repr

/-- One row of a cipher given by tables: what SENC answers for one key and block. -/
structure SencRow where
  key    : Block
  block  : Block
  result : Block
deriving DecidableEq, Repr

/-- One row of a cipher given by tables: what TENC answers for one key and block. -/
structure TencRow where
  key    : Key
  block  : Block
  result : Block
deriving DecidableEq, Repr

/-- P_CIPHER, the block-cipher collaborator (spec/00_scope.md R5): the spec's default, or any other pair of functions
written as finite tables in which a call that has no row fails with CipherFailure. Both domains are finite, so every
P_CIPHER of R129 is such a pair of tables (log 4). -/
inductive Cipher where
  /-- The spec's default, DES and two-key triple DES (spec/46_des_reference.md R243, R244; general knowledge by the spec's own mark, log 4). -/
  | des
  /-- Any other collaborator; an unlisted call fails. -/
  | table (senc : List SencRow) (tenc : List TencRow)
deriving DecidableEq, Repr

/-- P_USAGE_MASK, one 128-bit constant for each usage (spec/00_scope.md R6). -/
structure UsageMasks where
  pinRequest   : Key
  pinResponse  : Key
  macRequest   : Key
  macResponse  : Key
  dataRequest  : Key
  dataResponse : Key
deriving DecidableEq, Repr, Inhabited

/-- P_KSN_OVERLENGTH (spec/00_scope.md R7). -/
inductive KsnOverlength where
  | accept
  | reject
deriving DecidableEq, Repr

/-- What the engine was built with (spec/00_scope.md R5 to R7, R9). P_LATENCY (R8) is no field: a model has no clock
(spec/70_reset_and_hazards.md R306), and `State.turns` says when a completion falls (log 1). -/
structure Config where
  cipher        : Cipher
  masks         : UsageMasks
  ksnOverlength : KsnOverlength
  base          : Nat
deriving DecidableEq, Repr

/-- P_USAGE_MASK of the build the reset state shows: OPEN in the spec (spec/00_scope.md R6), so it has no body (log 3). -/
opaque Config.builtMasks : UsageMasks

/-- P_BASE of the build the reset state shows: OPEN in the spec (spec/00_scope.md R9), so it has no body (log 3). -/
opaque Config.builtBase : Nat

/-- The build the reset state shows: the spec's defaults where it has them (the cipher of R5, the ACCEPT of R7), the
open values where it has none. DESIGN CHOICE (log 2). -/
def Config.built : Config where
  cipher := .des
  masks := Config.builtMasks
  ksnOverlength := .accept
  base := Config.builtBase

end Sys2Proof
end

