-- ==== Sys2Proof/Machine/Datapath.lean ====
section
/-! DEFINITION. The datapath primitives of spec/41_datapath_primitives.md R120 to R126 on vectors whose bit 0 is the
most significant bit (spec/00_scope.md R10), and the word layout of a vector register (spec/20_memory.md R63). Every
operation returns a new value (R120; spec/00_scope.md R15). -/

namespace Sys2Proof.Machine

/-- `v⟨i⟩`: bit i from the most significant end (spec/00_scope.md R10); false outside the vector. -/
def bitAt {n : Nat} (v : BitVec n) (i : Nat) : Bool :=
  v.getMsbD i

/-- `v[a:b)` (R121; spec/00_scope.md R11). -/
def slice {n : Nat} (v : BitVec n) (a b : Nat) : BitVec (b - a) :=
  v.extractLsb' (n - b) (b - a)

/-- The vector whose bits [a, b) are 1 and whose other bits are 0. -/
def rangeMask (n a b : Nat) : BitVec n :=
  (BitVec.allOnes (b - a)).setWidth n <<< (n - b)

/-- `setBit(v, i)` (R122). -/
def setBit {n : Nat} (v : BitVec n) (i : Nat) : BitVec n :=
  v ||| rangeMask n i (i + 1)

/-- `clearRange(v, a, b)` (R123). -/
def clearRange {n : Nat} (v : BitVec n) (a b : Nat) : BitVec n :=
  v &&& ~~~(rangeMask n a b)

/-- `popcount(v)`: the number of 1 bits (R126). -/
def popcount {n : Nat} (v : BitVec n) : Nat :=
  (List.range n).countP (bitAt v)

/-- Byte m of a vector: bits [8m, 8m+8) (R125). -/
def byteAt {n : Nat} (v : BitVec n) (m : Nat) : Byte :=
  v.extractLsb' (n - 8 * (m + 1)) 8

/-- `toBytes(v)`: the n/8 bytes, the most significant first (R125). -/
def toBytes {n : Nat} (v : BitVec n) : List Byte :=
  (List.range (n / 8)).map (byteAt v)

/-- A vector read back from a byte sequence by the same packing (R127). -/
def ofBytes (n : Nat) (bs : List Byte) : BitVec n :=
  bs.foldl (fun acc b => (acc <<< 8) ||| b.setWidth n) 0

/-- The left half `k[0:64)` of a key. -/
def leftHalf (k : Key) : Block :=
  slice k 0 64

/-- The right half `k[64:128)` of a key. -/
def rightHalf (k : Key) : Block :=
  slice k 64 128

/-- The transaction counter, KSN bits [59:80) (spec/10_state.md R20). -/
def counterOf (ksn : Ksn) : Counter :=
  slice ksn 59 80

/-- A KSN with its transaction counter zeroed (spec/43_ipek.md R160 step 1, spec/44_session_key.md R180 step 1). -/
def zeroCounter (ksn : Ksn) : Ksn :=
  clearRange ksn 59 80

/-- KeyRegisterMask (spec/10_state.md R32). -/
def krm : Key :=
  0xC0C0C0C000000000C0C0C0C000000000

/-- Word j of a vector of n bits, n at least 32·(j+1): bits [32j, 32j+32), most significant first (spec/20_memory.md R63). -/
def wordAt {n : Nat} (v : BitVec n) (j : Nat) : Word :=
  v.extractLsb' (n - 32 * (j + 1)) 32

/-- The vector with word j replaced (spec/20_memory.md R63). -/
def setWordAt {n : Nat} (v : BitVec n) (j : Nat) (w : Word) : BitVec n :=
  clearRange v (32 * j) (32 * (j + 1)) ||| (w.setWidth n <<< (n - 32 * (j + 1)))

/-- The KSN's three words as one 96-bit image: bits [15:0] of word 2 read 0 (spec/20_memory.md R63). -/
def ksnImage (ksn : Ksn) : BitVec 96 :=
  ksn ++ (0 : BitVec 16)

/-- The KSN with word j written; bits [15:0] of word 2 are ignored (spec/20_memory.md R63, R65). -/
def setKsnWord (ksn : Ksn) (j : Nat) (w : Word) : Ksn :=
  slice (setWordAt (ksnImage ksn) j w) 0 80

end Sys2Proof.Machine
end

