-- ==== Sys2Proof/Machine/Des.lean ====
section
/-! DEFINITION. The default cipher of spec/46_des_reference.md R230 to R246: DES and two-key triple DES. The spec marks
every rule of that file as general knowledge (log 4). Positions in the tables count from 1 at the most
significant bit (R230). -/

namespace Sys2Proof.Machine

/-- `perm(v, T)`: output bit j is input bit T[j] − 1 (R230). -/
def permute {n : Nat} (t : List Nat) (m : Nat) (v : BitVec n) : BitVec m :=
  BitVec.ofNat m (t.foldl (fun acc p => 2 * acc + (bitAt v (p - 1)).toNat) 0)

/-- IP, the initial permutation (R231). -/
def tableIP : List Nat :=
  [58, 50, 42, 34, 26, 18, 10, 2] ++
  [60, 52, 44, 36, 28, 20, 12, 4] ++
  [62, 54, 46, 38, 30, 22, 14, 6] ++
  [64, 56, 48, 40, 32, 24, 16, 8] ++
  [57, 49, 41, 33, 25, 17, 9, 1] ++
  [59, 51, 43, 35, 27, 19, 11, 3] ++
  [61, 53, 45, 37, 29, 21, 13, 5] ++
  [63, 55, 47, 39, 31, 23, 15, 7]

/-- FP, the final permutation (R232). -/
def tableFP : List Nat :=
  [40, 8, 48, 16, 56, 24, 64, 32] ++
  [39, 7, 47, 15, 55, 23, 63, 31] ++
  [38, 6, 46, 14, 54, 22, 62, 30] ++
  [37, 5, 45, 13, 53, 21, 61, 29] ++
  [36, 4, 44, 12, 52, 20, 60, 28] ++
  [35, 3, 43, 11, 51, 19, 59, 27] ++
  [34, 2, 42, 10, 50, 18, 58, 26] ++
  [33, 1, 41, 9, 49, 17, 57, 25]

/-- E, the expansion (R233). -/
def tableE : List Nat :=
  [32, 1, 2, 3, 4, 5] ++
  [4, 5, 6, 7, 8, 9] ++
  [8, 9, 10, 11, 12, 13] ++
  [12, 13, 14, 15, 16, 17] ++
  [16, 17, 18, 19, 20, 21] ++
  [20, 21, 22, 23, 24, 25] ++
  [24, 25, 26, 27, 28, 29] ++
  [28, 29, 30, 31, 32, 1]

/-- P, the permutation of the S-box output (R234). -/
def tableP : List Nat :=
  [16, 7, 20, 21, 29, 12, 28, 17] ++
  [1, 15, 23, 26, 5, 18, 31, 10] ++
  [2, 8, 24, 14, 32, 27, 3, 9] ++
  [19, 13, 30, 6, 22, 11, 4, 25]

/-- PC-1, the key permuted choice 1; positions 8, 16, …, 64 do not appear (R238). -/
def tablePC1 : List Nat :=
  [57, 49, 41, 33, 25, 17, 9] ++
  [1, 58, 50, 42, 34, 26, 18] ++
  [10, 2, 59, 51, 43, 35, 27] ++
  [19, 11, 3, 60, 52, 44, 36] ++
  [63, 55, 47, 39, 31, 23, 15] ++
  [7, 62, 54, 46, 38, 30, 22] ++
  [14, 6, 61, 53, 45, 37, 29] ++
  [21, 13, 5, 28, 20, 12, 4]

/-- PC-2, the key permuted choice 2 (R239). -/
def tablePC2 : List Nat :=
  [14, 17, 11, 24, 1, 5] ++
  [3, 28, 15, 6, 21, 10] ++
  [23, 19, 12, 4, 26, 8] ++
  [16, 7, 27, 20, 13, 2] ++
  [41, 52, 31, 37, 47, 55] ++
  [30, 40, 51, 45, 33, 48] ++
  [44, 49, 39, 56, 34, 53] ++
  [46, 42, 50, 36, 29, 32]

/-- S1, row by row (R236). -/
def sbox1 : List (List Nat) :=
  [[14, 4, 13, 1, 2, 15, 11, 8, 3, 10, 6, 12, 5, 9, 0, 7],
   [0, 15, 7, 4, 14, 2, 13, 1, 10, 6, 12, 11, 9, 5, 3, 8],
   [4, 1, 14, 8, 13, 6, 2, 11, 15, 12, 9, 7, 3, 10, 5, 0],
   [15, 12, 8, 2, 4, 9, 1, 7, 5, 11, 3, 14, 10, 0, 6, 13]]

/-- S2, row by row (R236). -/
def sbox2 : List (List Nat) :=
  [[15, 1, 8, 14, 6, 11, 3, 4, 9, 7, 2, 13, 12, 0, 5, 10],
   [3, 13, 4, 7, 15, 2, 8, 14, 12, 0, 1, 10, 6, 9, 11, 5],
   [0, 14, 7, 11, 10, 4, 13, 1, 5, 8, 12, 6, 9, 3, 2, 15],
   [13, 8, 10, 1, 3, 15, 4, 2, 11, 6, 7, 12, 0, 5, 14, 9]]

/-- S3, row by row (R236). -/
def sbox3 : List (List Nat) :=
  [[10, 0, 9, 14, 6, 3, 15, 5, 1, 13, 12, 7, 11, 4, 2, 8],
   [13, 7, 0, 9, 3, 4, 6, 10, 2, 8, 5, 14, 12, 11, 15, 1],
   [13, 6, 4, 9, 8, 15, 3, 0, 11, 1, 2, 12, 5, 10, 14, 7],
   [1, 10, 13, 0, 6, 9, 8, 7, 4, 15, 14, 3, 11, 5, 2, 12]]

/-- S4, row by row (R236). -/
def sbox4 : List (List Nat) :=
  [[7, 13, 14, 3, 0, 6, 9, 10, 1, 2, 8, 5, 11, 12, 4, 15],
   [13, 8, 11, 5, 6, 15, 0, 3, 4, 7, 2, 12, 1, 10, 14, 9],
   [10, 6, 9, 0, 12, 11, 7, 13, 15, 1, 3, 14, 5, 2, 8, 4],
   [3, 15, 0, 6, 10, 1, 13, 8, 9, 4, 5, 11, 12, 7, 2, 14]]

/-- S5, row by row (R237). -/
def sbox5 : List (List Nat) :=
  [[2, 12, 4, 1, 7, 10, 11, 6, 8, 5, 3, 15, 13, 0, 14, 9],
   [14, 11, 2, 12, 4, 7, 13, 1, 5, 0, 15, 10, 3, 9, 8, 6],
   [4, 2, 1, 11, 10, 13, 7, 8, 15, 9, 12, 5, 6, 3, 0, 14],
   [11, 8, 12, 7, 1, 14, 2, 13, 6, 15, 0, 9, 10, 4, 5, 3]]

/-- S6, row by row (R237). -/
def sbox6 : List (List Nat) :=
  [[12, 1, 10, 15, 9, 2, 6, 8, 0, 13, 3, 4, 14, 7, 5, 11],
   [10, 15, 4, 2, 7, 12, 9, 5, 6, 1, 13, 14, 0, 11, 3, 8],
   [9, 14, 15, 5, 2, 8, 12, 3, 7, 0, 4, 10, 1, 13, 11, 6],
   [4, 3, 2, 12, 9, 5, 15, 10, 11, 14, 1, 7, 6, 0, 8, 13]]

/-- S7, row by row (R237). -/
def sbox7 : List (List Nat) :=
  [[4, 11, 2, 14, 15, 0, 8, 13, 3, 12, 9, 7, 5, 10, 6, 1],
   [13, 0, 11, 7, 4, 9, 1, 10, 14, 3, 5, 12, 2, 15, 8, 6],
   [1, 4, 11, 13, 12, 3, 7, 14, 10, 15, 6, 8, 0, 5, 9, 2],
   [6, 11, 13, 8, 1, 4, 10, 7, 9, 5, 0, 15, 14, 2, 3, 12]]

/-- S8, row by row (R237). -/
def sbox8 : List (List Nat) :=
  [[13, 2, 8, 4, 6, 15, 11, 1, 10, 9, 3, 14, 5, 0, 12, 7],
   [1, 15, 13, 8, 10, 3, 7, 4, 12, 5, 6, 11, 0, 14, 9, 2],
   [7, 11, 4, 1, 9, 12, 14, 2, 0, 6, 10, 13, 15, 3, 5, 8],
   [2, 1, 14, 7, 4, 10, 8, 13, 15, 12, 9, 0, 3, 5, 6, 11]]

/-- The left-rotation amounts of rounds 1 to 16 (R240). -/
def keyShifts : List Nat :=
  [1, 1, 2, 2, 2, 2, 2, 2, 1, 2, 2, 2, 2, 2, 2, 1]

/-- `S_k(b)`: row 2·b⟨0⟩ + b⟨5⟩, column val(b[1:5)) (R235). -/
def sboxLookup (rows : List (List Nat)) (b : BitVec 6) : BitVec 4 :=
  let row := 2 * (bitAt b 0).toNat + (bitAt b 5).toNat
  BitVec.ofNat 4 ((rows.getD row []).getD (slice b 1 5).toNat 0)

/-- The eight S-boxes side by side (R242). -/
def sboxLayer (x : BitVec 48) : BitVec 32 :=
  sboxLookup sbox1 (slice x 0 6) ++ sboxLookup sbox2 (slice x 6 12) ++
  sboxLookup sbox3 (slice x 12 18) ++ sboxLookup sbox4 (slice x 18 24) ++
  sboxLookup sbox5 (slice x 24 30) ++ sboxLookup sbox6 (slice x 30 36) ++
  sboxLookup sbox7 (slice x 36 42) ++ sboxLookup sbox8 (slice x 42 48)

/-- The round keys from the halves C and D and the rotations still to make (R241). -/
def keySchedule (c d : BitVec 28) : List Nat → List (BitVec 48)
  | [] => []
  | s :: ss =>
    let c' := c.rotateLeft s
    let d' := d.rotateLeft s
    permute tablePC2 48 (c' ++ d') :: keySchedule c' d' ss

/-- K_1 to K_16 of a key (R241). -/
def roundKeys (k : Block) : List (BitVec 48) :=
  let cd : BitVec 56 := permute tablePC1 56 k
  keySchedule (slice cd 0 28) (slice cd 28 56) keyShifts

/-- `f(R, K)` (R242). -/
def desF (r : BitVec 32) (k : BitVec 48) : BitVec 32 :=
  permute tableP 32 (sboxLayer (permute tableE 48 r ^^^ k))

/-- The Feistel rounds under the given round keys, in order (R242). -/
def desRounds (l r : BitVec 32) : List (BitVec 48) → BitVec 32 × BitVec 32
  | [] => (l, r)
  | k :: ks => desRounds r (l ^^^ desF r k) ks

/-- DES under a list of round keys: IP, the rounds, the final swap, FP (R242). -/
def desWith (ks : List (BitVec 48)) (m : Block) : Block :=
  let v : Block := permute tableIP 64 m
  let lr := desRounds (slice v 0 32) (slice v 32 64) ks
  permute tableFP 64 (lr.2 ++ lr.1)

/-- `DES_E(k, m)` (R242). -/
def desEncrypt (k m : Block) : Block :=
  desWith (roundKeys k) m

/-- `DES_D(k, c)`: the round keys in the order K_16 … K_1 (R242). -/
def desDecrypt (k c : Block) : Block :=
  desWith (roundKeys k).reverse c

/-- The default TENC: DES_E(K1, DES_D(K2, DES_E(K1, b))) with K1 the left half (R244). -/
def tdesEncrypt (k : Key) (b : Block) : Block :=
  desEncrypt (leftHalf k) (desDecrypt (rightHalf k) (desEncrypt (leftHalf k) b))

end Sys2Proof.Machine
end

