-- ==== Sys2Proof/Machine/State.lean ====
section
/-! DEFINITION. The state of DUKPT-ENG and its surroundings as plain data: the host-visible registers
(spec/10_state.md R22 to R31), the engine's internal state (R34, R35), the build's parameters, the host agent, and the
schedule that says which agent moves next. -/

namespace Sys2Proof.Machine

/-- The engine's errors (spec/60_exceptions.md R260). They are outcomes of a command, never machine faults (R268). -/
inductive EngineError where
  | invalidKeyLength
  | invalidKsnLength
  /-- In the taxonomy only: every XOR has operands of one width, so no command raises it (R264; log 21). -/
  | lengthMismatch
  | cipherFailure
  | illegalCommand
deriving DecidableEq, Repr

/-- The sequencer (spec/10_state.md R34). STATUS.BUSY is this field, read as a bit. -/
inductive Sequencer where
  | idle
  | busy
deriving DecidableEq, Repr

/-- The copies a command reads, taken at acceptance (spec/40_command_lifecycle.md R102). -/
structure Snapshot where
  cmd : Word
  len : Word
  bdk : Key
  ksn : Ksn
  kin : Key
  din : Block
deriving DecidableEq, Repr

/-- No snapshot: what completion and reset leave (spec/40_command_lifecycle.md R105). Zero: DEDUCED (log 7). -/
def Snapshot.cleared : Snapshot where
  cmd := 0
  len := 0
  bdk := 0
  ksn := 0
  kin := 0
  din := 0

/-- The place in a running command's internal work: one stage makes at most one cipher call, in the order of
spec/41_datapath_primitives.md R130. The spec names the working values and their order and no register for the place in
it: DESIGN CHOICE (log 6). -/
inductive Stage where
  /-- Nothing done: decode, then check the lengths where the command checks them. -/
  | start
  /-- DERIVE_IPEK's step 2. -/
  | ipekLeft
  /-- DERIVE_IPEK's steps 3 to 5. -/
  | ipekRight
  /-- The iterator's test of one counter bit. -/
  | testBit
  /-- Steps 1 to 3 of a round. -/
  | roundRight
  /-- Steps 4 to 8 of a round. -/
  | roundLeft
  /-- The usage mask. -/
  | mask
  /-- The data-key variant's step 2. -/
  | part1
  /-- The data-key variant's steps 3 and 4. -/
  | part2
  /-- The work is done. -/
  | finished
  /-- The work ended in an error. -/
  | failed (e : EngineError)
deriving DecidableEq, Repr

/-- The working values a BUSY engine holds (spec/10_state.md R35). -/
structure Working where
  stage          : Stage
  /-- The round function's values (spec/42_round_function.md R140). -/
  keyLeft        : Block
  keyRight       : Block
  keyPrime       : Key
  r1             : Block
  r2             : Block
  /-- The iterator's values (spec/44_session_key.md R180). -/
  accumulator    : Ksn
  transactionKey : Key
  bitIndex       : Nat
  /-- The intermediates of COMPUTE_KEY and COMPUTE_DATA_KEY_VARIANT (spec/45_key_masker.md R206, R210); APPLY_MASK holds
  its mask here too, and touches no derivation state (R203). -/
  ipek           : Key
  mask           : Key
  derivedKey     : Key
  part1          : Block
  part2          : Block
  /-- The rounds made so far. -/
  rounds         : Nat
deriving DecidableEq, Repr

/-- No working state: what acceptance starts from and completion and reset leave. Zero: DEDUCED (log 7). -/
def Working.cleared : Working where
  stage := .start
  keyLeft := 0
  keyRight := 0
  keyPrime := 0
  r1 := 0
  r2 := 0
  accumulator := 0
  transactionKey := 0
  bitIndex := 0
  ipek := 0
  mask := 0
  derivedKey := 0
  part1 := 0
  part2 := 0
  rounds := 0

/-- The words of the register window (spec/20_memory.md R61), with the names host programs use (spec/30_encoding.md R89). -/
inductive RegWord where
  | cmd
  | status
  | ctrl
  | len
  | bdk (j : Fin 4)
  | ksn (j : Fin 3)
  | kin (j : Fin 4)
  | din (j : Fin 2)
  | kout (j : Fin 4)
deriving DecidableEq, Repr

/-- What a host access does. -/
inductive AccessKind where
  | read
  | write (w : Word)
deriving DecidableEq, Repr

/-- A bus access by any host: an address, a width in bits, a kind (spec/20_memory.md R62, R66). -/
structure Access where
  addr  : Nat
  width : Nat
  kind  : AccessKind
deriving DecidableEq, Repr

/-- What the bus hands back for one access (spec/20_memory.md R62, R66). -/
inductive Reply where
  /-- The word a read returns. -/
  | data (w : Word)
  /-- A write completed without error (an ignored write among them, R65). -/
  | done
  /-- A bus error: no state changed and no value is returned (R66). -/
  | busError
deriving DecidableEq, Repr

/-- One line of a host program (spec/30_encoding.md R89). Labels and names are numbers (log 13). -/
inductive HostLine where
  /-- `write REG, w`. -/
  | write (r : RegWord) (w : Word)
  /-- `read REG -> name`. -/
  | read (r : RegWord) (name : Nat)
  /-- `label:`, a name for the next line. -/
  | label (l : Nat)
  /-- `if name[hi:lo] == v goto label`. -/
  | branch (name hi lo v l : Nat)
deriving DecidableEq, Repr

/-- The host: its program, its own program counter (spec/10_state.md R21) and the values it has read, sorted by name. -/
structure HostAgent where
  program : List HostLine
  pc      : Nat
  values  : List (Nat × Word)
deriving DecidableEq, Repr

/-- Who moves in one step (spec/00_scope.md R17, spec/20_memory.md R68; log 1). -/
inductive Turn where
  /-- The host runs the next line of its program. -/
  | host
  /-- A bus access outside that program: another host's (spec/60_exceptions.md R276), or one no line can make (R66). -/
  | access (a : Access)
  /-- A BUSY engine does one stage of internal work, which no host can see (spec/10_state.md R36). -/
  | tick
  /-- A BUSY engine takes its completion step (spec/40_command_lifecycle.md R105). -/
  | complete
  /-- The platform resets the engine (spec/70_reset_and_hazards.md R290). -/
  | reset
deriving DecidableEq, Repr

/-- The machine. -/
structure State where
  /-- The build's parameters; no step changes them. -/
  cfg     : Config
  /-- CMD (R28). -/
  cmd     : Word
  /-- The sequencer, which is STATUS.BUSY (R34). -/
  seq     : Sequencer
  /-- STATUS.DONE, OVR, ERR and ROUNDS (R29). -/
  done    : Bool
  ovr     : Bool
  err     : BitVec 4
  rounds  : BitVec 5
  /-- CTRL.IE (R30). -/
  ie      : Bool
  /-- LEN (R31). -/
  len     : Word
  /-- The operand registers (R23 to R26). -/
  bdk     : Key
  ksn     : Ksn
  kin     : Key
  din     : Block
  /-- The result (R27). -/
  kout    : Key
  /-- The snapshot and the working state of the running command (R35). -/
  snap    : Snapshot
  work    : Working
  /-- The host agent. -/
  host    : HostAgent
  /-- Whose turns come next, the first first (log 1). -/
  turns   : List Turn
  /-- What the bus has handed back, the newest first (log 12). -/
  replies : List Reply
deriving DecidableEq, Repr

/-- Why the machine stops. No command stops it: errors are completion codes (spec/60_exceptions.md R268), bus errors are
replies (spec/20_memory.md R66). Only an ill-formed host program does, of which the spec says nothing (log 13). -/
inductive Fault where
  /-- Raised by the host's turn, at a branch on a name the program has not read. Safe: the model stops. -/
  | hostUnreadName (name : Nat)
  /-- Raised by the host's turn, at a TAKEN branch to a label that does not stand in the program. Safe: the model stops. -/
  | hostMissingLabel (l : Nat)
  /-- Raised by the host's turn, at a branch on a field that is not within 31 ≥ hi ≥ lo (spec/00_scope.md R13). Safe. -/
  | hostIllFormedField (hi lo : Nat)
deriving DecidableEq, Repr

/-- Why an instruction has no meaning. No arm of `exec` is refused. -/
inductive Refusal where
  /-- Raised by an arm of `exec` that has no meaning yet; there is none. Safe: the model stops. -/
  | notModelled (mnemonic : String)
deriving DecidableEq, Repr

/-- What one step answers. -/
abbrev Outcome := Host.Outcome State Fault Refusal

/-- The engine and its surroundings right after reset: every register at the value of spec/10_state.md R22 to R31 and
spec/70_reset_and_hazards.md R290 (all zero but LEN), the sequencer IDLE, the internal state cleared, no host program,
no turn scheduled. -/
def State.reset : State where
  cfg := Config.built
  cmd := 0
  seq := .idle
  done := false
  ovr := false
  err := 0
  rounds := 0
  ie := false
  len := 0x00500080
  bdk := 0
  ksn := 0
  kin := 0
  din := 0
  kout := 0
  snap := Snapshot.cleared
  work := Working.cleared
  host := { program := [], pc := 0, values := [] }
  turns := []
  replies := []

end Sys2Proof.Machine
end

