-- ==== Sys2Proof/Machine/Cipher.lean ====
section
/-! DEFINITION. The cipher collaborator P_CIPHER (spec/00_scope.md R5; spec/41_datapath_primitives.md R127 to R129) and
the computations that call it. A computation (`Run`) carries the calls it makes, in order, beside its result, so that the
rules about which calls are made and when none is (R128, R130; spec/30_encoding.md R86) can be stated of it. -/

namespace Sys2Proof.Machine

/-- What SENC answers, none for a failed call (R5, R128, R129). -/
def cipherSenc (c : Cipher) (key block : Block) : Option Block :=
  match c with
  | .des => some (desEncrypt key block)
  | .table rows _ => (rows.find? fun r => r.key == key && r.block == block).map (·.result)

/-- What TENC answers, none for a failed call (R5, R128, R129). -/
def cipherTenc (c : Cipher) (key : Key) (block : Block) : Option Block :=
  match c with
  | .des => some (tdesEncrypt key block)
  | .table _ rows => (rows.find? fun r => r.key == key && r.block == block).map (·.result)

/-- One call to the collaborator (R127). -/
inductive CipherCall where
  | senc (key block : Block)
  | tenc (key : Key) (block : Block)
deriving DecidableEq, Repr

/-- A computation of the engine: the cipher calls it makes, the first first, a failing one among them, and how it ends. -/
structure Run (α : Type) where
  calls  : List CipherCall
  result : Except EngineError α
deriving DecidableEq, Repr

/-- A value, with no call. -/
def Run.pure {α : Type} (a : α) : Run α where
  calls := []
  result := .ok a

/-- `raise E` (spec/00_scope.md R14): the command ends at once. -/
def Run.raise {α : Type} (e : EngineError) : Run α where
  calls := []
  result := .error e

/-- One computation after another. After a raise nothing is evaluated and no call is made (spec/40_command_lifecycle.md
R103, spec/41_datapath_primitives.md R128). -/
def Run.andThen {α β : Type} (x : Run α) (f : α → Run β) : Run β :=
  match x.result with
  | .error e => { calls := x.calls, result := .error e }
  | .ok a => { calls := x.calls ++ (f a).calls, result := (f a).result }

/-- What a call's answer means to the engine: a failure is `raise CipherFailure` (R128). -/
def cipherAnswer (r : Option Block) : Except EngineError Block :=
  match r with
  | some b => .ok b
  | none => .error .cipherFailure

/-- `SENC(key, block)` as the engine calls it (R127, R128). -/
def callSenc (c : Cipher) (key block : Block) : Run Block where
  calls := [.senc key block]
  result := cipherAnswer (cipherSenc c key block)

/-- `TENC(key, block)` as the engine calls it (R127, R128). -/
def callTenc (c : Cipher) (key : Key) (block : Block) : Run Block where
  calls := [.tenc key block]
  result := cipherAnswer (cipherTenc c key block)

end Sys2Proof.Machine
end

