-- ==== Sys2Proof/Machine/Operands.lean ====
section
/-! DEFINITION. The operands of a command beside its operand registers: the declared lengths (spec/10_state.md R31) with
their check (spec/45_key_masker.md R205), and the usage masks (spec/10_state.md R33). A command takes every operand from
the snapshot (spec/30_encoding.md R88); the operand registers are whole vectors there, so there is no other operand
form. -/

namespace Sys2Proof.Machine

/-- BDK_LEN = LEN[15:0] (spec/10_state.md R31). -/
def bdkLen (len : Word) : Nat :=
  (len.extractLsb' 0 16).toNat

/-- KSN_LEN = LEN[31:16] (spec/10_state.md R31). -/
def ksnLen (len : Word) : Nat :=
  (len.extractLsb' 16 16).toNat

/-- The width the BDK must be declared with (R205). -/
def requiredBdkLen : Nat := 128

/-- The width the KSN must at least be declared with (R205). -/
def requiredKsnLen : Nat := 80

/-- `checkLengths(len)`: the key first, then the KSN, an over-length KSN by P_KSN_OVERLENGTH (R205). It makes no cipher
call. -/
def checkLengths (policy : KsnOverlength) (len : Word) : Run Unit :=
  if bdkLen len ≠ requiredBdkLen then Run.raise .invalidKeyLength
  else if ksnLen len < requiredKsnLen then Run.raise .invalidKsnLength
  else if requiredKsnLen < ksnLen len ∧ policy = .reject then Run.raise .invalidKsnLength
  else Run.pure ()

/-- `USAGE_MASK[u]` (spec/10_state.md R33; spec/00_scope.md R6). -/
def usageMask (m : UsageMasks) (u : Usage) : Key :=
  match u with
  | .pinRequest => m.pinRequest
  | .pinResponse => m.pinResponse
  | .macRequest => m.macRequest
  | .macResponse => m.macResponse
  | .dataRequest => m.dataRequest
  | .dataResponse => m.dataResponse

end Sys2Proof.Machine
end

