-- ==== Sys2Proof/Machine/Flags.lean ====
section
/-! DEFINITION. The status and control words (spec/10_state.md R29, R30), the interrupt output
(spec/60_exceptions.md R270) and the error codes (R260). DUKPT-ENG has no condition codes (spec/10_state.md R37). -/

namespace Sys2Proof.Machine

/-- STATUS.BUSY, always equal to the sequencer (R34). -/
def State.busy (s : State) : Bool :=
  match s.seq with
  | .busy => true
  | .idle => false

/-- A bit as a one-bit vector. -/
def bit (b : Bool) : BitVec 1 :=
  BitVec.ofBool b

/-- STATUS as a word: BUSY [0], DONE [1], OVR [2], 0 [3], ERR [7:4], ROUNDS [12:8], 0 [31:13] (R29). -/
def statusWord (s : State) : Word :=
  (0 : BitVec 19) ++ s.rounds ++ s.err ++ (0 : BitVec 1) ++ bit s.ovr ++ bit s.done ++ bit s.busy

/-- CTRL as a word: IE [0], 0 [31:1] (R30). -/
def ctrlWord (s : State) : Word :=
  (0 : BitVec 31) ++ bit s.ie

/-- A host write to STATUS: bit 1 clears DONE and bit 2 clears OVR where they are 1; nothing else changes (R29). -/
def writeStatus (s : State) (w : Word) : State :=
  { s with done := s.done && !w.getLsbD 1, ovr := s.ovr && !w.getLsbD 2 }

/-- A host write to CTRL keeps bit 0 only (R30; spec/20_memory.md R65). -/
def writeCtrl (s : State) (w : Word) : State :=
  { s with ie := w.getLsbD 0 }

/-- The interrupt output, a level: CTRL.IE AND STATUS.DONE (spec/60_exceptions.md R270). -/
def irq (s : State) : Bool :=
  s.ie && s.done

/-- The value of STATUS.ERR for each error (spec/60_exceptions.md R260). -/
def errorCode : EngineError → BitVec 4
  | .invalidKeyLength => 1
  | .invalidKsnLength => 2
  | .lengthMismatch => 3
  | .cipherFailure => 4
  | .illegalCommand => 5

end Sys2Proof.Machine
end

