-- ==== Sys2Proof/Machine/Ops.lean ====
section
/-! DEFINITION. The shared operations over the registers: acceptance, the dropped command, the completion step with its
two outcomes (spec/40_command_lifecycle.md R101 to R107), the register window (spec/20_memory.md R60 to R67) and reset
(spec/70_reset_and_hazards.md R290, R291). The failing completion is this hardware's taking of an exception: an error
does not trap, it completes the command with a code (spec/60_exceptions.md R268). There is no return from it; the next
acceptance clears ERR (R269). -/

namespace Sys2Proof.Machine

/-- The copies taken when the command word w is accepted (spec/40_command_lifecycle.md R102). -/
def takeSnapshot (s : State) (w : Word) : Snapshot where
  cmd := w
  len := s.len
  bdk := s.bdk
  ksn := s.ksn
  kin := s.kin
  din := s.din

/-- Acceptance of a command word, legal or not (spec/40_command_lifecycle.md R101). -/
def accept (s : State) (w : Word) : State :=
  { s with
    cmd := w
    snap := takeSnapshot s w
    work := Working.cleared
    done := false
    err := 0
    rounds := 0
    seq := .busy }

/-- A CMD write while BUSY: dropped, and OVR is set (spec/40_command_lifecycle.md R104). -/
def dropCommand (s : State) : State :=
  { s with ovr := true }

/-- A host write to CMD (spec/10_state.md R28). -/
def writeCmd (s : State) (w : Word) : State :=
  match s.seq with
  | .idle => accept s w
  | .busy => dropCommand s

/-- Completion with success (spec/40_command_lifecycle.md R105, R106). -/
def succeed (s : State) (k : Key) (n : Nat) : State :=
  { s with
    kout := k
    rounds := BitVec.ofNat 5 n
    err := 0
    seq := .idle
    done := true
    snap := Snapshot.cleared
    work := Working.cleared }

/-- Completion with an error: KOUT and ROUNDS are 0 and ERR is the code (spec/40_command_lifecycle.md R105, R107). -/
def fail (s : State) (e : EngineError) : State :=
  { s with
    kout := 0
    rounds := 0
    err := errorCode e
    seq := .idle
    done := true
    snap := Snapshot.cleared
    work := Working.cleared }

/-- The completion step for a command's outcome (spec/40_command_lifecycle.md R105). -/
def complete (s : State) (r : Except EngineError (Key × Nat)) : State :=
  match r with
  | .ok (k, n) => succeed s k n
  | .error e => fail s e

/-- Reset: every register at its reset value, the sequencer IDLE, the internal state cleared; a running command is
discarded (spec/70_reset_and_hazards.md R290, R291). The build, the host and the schedule are not the engine's and stay
(log 14). -/
def resetEngine (s : State) : State :=
  { State.reset with cfg := s.cfg, host := s.host, turns := s.turns, replies := s.replies }

/-- The offset of a register word in the window (spec/20_memory.md R61). -/
def regOffset : RegWord → Nat
  | .cmd => 0x00
  | .status => 0x04
  | .ctrl => 0x08
  | .len => 0x0C
  | .bdk j => 0x10 + 4 * j.val
  | .ksn j => 0x20 + 4 * j.val
  | .kin j => 0x30 + 4 * j.val
  | .din j => 0x40 + 4 * j.val
  | .kout j => 0x50 + 4 * j.val

/-- The register word at an offset of the window; none at a reserved, misaligned or outside offset (spec/20_memory.md
R61, R66). -/
def regAt (off : Nat) : Option RegWord :=
  match off with
  | 0x00 => some .cmd
  | 0x04 => some .status
  | 0x08 => some .ctrl
  | 0x0C => some .len
  | 0x10 => some (.bdk 0)
  | 0x14 => some (.bdk 1)
  | 0x18 => some (.bdk 2)
  | 0x1C => some (.bdk 3)
  | 0x20 => some (.ksn 0)
  | 0x24 => some (.ksn 1)
  | 0x28 => some (.ksn 2)
  | 0x30 => some (.kin 0)
  | 0x34 => some (.kin 1)
  | 0x38 => some (.kin 2)
  | 0x3C => some (.kin 3)
  | 0x40 => some (.din 0)
  | 0x44 => some (.din 1)
  | 0x50 => some (.kout 0)
  | 0x54 => some (.kout 1)
  | 0x58 => some (.kout 2)
  | 0x5C => some (.kout 3)
  | _ => none

/-- What a host read of a register word returns; no read changes anything (spec/20_memory.md R63, R65, R67). -/
def readReg (s : State) : RegWord → Word
  | .cmd => s.cmd
  | .status => statusWord s
  | .ctrl => ctrlWord s
  | .len => s.len
  | .bdk _ => 0
  | .ksn j => wordAt (ksnImage s.ksn) j.val
  | .kin j => wordAt s.kin j.val
  | .din j => wordAt s.din j.val
  | .kout j => wordAt s.kout j.val

/-- What a host write to a register word does (spec/20_memory.md R63, R65, R67). -/
def writeReg (s : State) (r : RegWord) (w : Word) : State :=
  match r with
  | .cmd => writeCmd s w
  | .status => writeStatus s w
  | .ctrl => writeCtrl s w
  | .len => { s with len := w }
  | .bdk j => { s with bdk := setWordAt s.bdk j.val w }
  | .ksn j => { s with ksn := setKsnWord s.ksn j.val w }
  | .kin j => { s with kin := setWordAt s.kin j.val w }
  | .din j => { s with din := setWordAt s.din j.val w }
  | .kout _ => s

/-- `BusRead(off)` (spec/20_memory.md R62, R66). -/
def busRead (s : State) (off : Nat) : Reply :=
  match regAt off with
  | some r => .data (readReg s r)
  | none => .busError

/-- `BusWrite(off, w)`: the state it leaves (spec/20_memory.md R62, R66). -/
def busWrite (s : State) (off : Nat) (w : Word) : State :=
  match regAt off with
  | some r => writeReg s r w
  | none => s

/-- What `BusWrite(off, w)` hands back (spec/20_memory.md R62, R66). -/
def busWriteReply (off : Nat) : Reply :=
  match regAt off with
  | some _ => .done
  | none => .busError

/-- The register word a raw access reaches: 32 bits wide, inside the window at P_BASE, at a register's offset
(spec/20_memory.md R60, R62, R66). -/
def accessTarget (base : Nat) (a : Access) : Option RegWord :=
  if a.width = 32 ∧ base ≤ a.addr then regAt (a.addr - base) else none

/-- The host is handed a reply (log 12). -/
def giveReply (s : State) (r : Reply) : State :=
  { s with replies := r :: s.replies }

/-- One raw bus access. An access outside the set of R62 is a bus error with no effect (spec/20_memory.md R66, R73). -/
def performAccess (s : State) (a : Access) : State :=
  match accessTarget s.cfg.base a, a.kind with
  | some r, .read => giveReply s (.data (readReg s r))
  | some r, .write w => giveReply (writeReg s r w) .done
  | none, _ => giveReply s .busError

end Sys2Proof.Machine
end

