-- ==== Sys2Proof/Machine/Ipek.lean ====
section
/-! DEFINITION. IPEK derivation and DERIVE_IPEK (spec/43_ipek.md R160 to R165). -/

namespace Sys2Proof.Machine

/-- The block both TENC calls encrypt: KSN bits 0 to 58, then five zeros (R160 step 1). -/
def ipekBlock (ksn : Ksn) : Block :=
  slice (zeroCounter ksn) 0 64

/-- `deriveIpek(bdk, ksn)` (R160). -/
def deriveIpek (c : Cipher) (bdk : Key) (ksn : Ksn) : Run Key :=
  let block := ipekBlock ksn
  (callTenc c bdk block).andThen fun left =>
  let variantKey := bdk ^^^ krm
  (callTenc c variantKey block).andThen fun right =>
  Run.pure (left ++ right)

/-- What DERIVE_IPEK computes from its snapshot (R161; spec/40_command_lifecycle.md R103). -/
def runDeriveIpek (cfg : Config) (i : Snapshot) : Run (Key × Nat) :=
  (deriveIpek cfg.cipher i.bdk i.ksn).andThen fun k => Run.pure (k, 0)

/-- DERIVE_IPEK (R161): the completion step of the accepted command. It reads no LEN and checks no length (R165). -/
def execDeriveIpek (s : State) : Outcome :=
  .next (complete s (runDeriveIpek s.cfg s.snap).result)

end Sys2Proof.Machine
end

