-- ==== Sys2Proof/Machine/Round.lean ====
section
/-! DEFINITION. The round function and ADVANCE (spec/42_round_function.md R140 to R146). -/

namespace Sys2Proof.Machine

/-- `advance(key, data)`, step for step as R140 numbers it: the unmasked key in steps 1 to 3, the masked key in steps 5
to 7, r1 as the left half of the result. -/
def advance (c : Cipher) (key : Key) (data : Block) : Run Key :=
  let keyLeft := leftHalf key
  let keyRight := rightHalf key
  (callSenc c keyLeft (data ^^^ keyRight)).andThen fun x2 =>
  let r2 := x2 ^^^ keyRight
  let keyPrime := key ^^^ krm
  (callSenc c (leftHalf keyPrime) (data ^^^ rightHalf keyPrime)).andThen fun x1 =>
  let r1 := x1 ^^^ rightHalf keyPrime
  Run.pure (r1 ++ r2)

/-- What ADVANCE computes from its snapshot: one round on KIN and DIN (R141; spec/40_command_lifecycle.md R103). -/
def runAdvance (cfg : Config) (i : Snapshot) : Run (Key × Nat) :=
  (advance cfg.cipher i.kin i.din).andThen fun k => Run.pure (k, 1)

/-- ADVANCE (R141): the completion step of the accepted command. -/
def execAdvance (s : State) : Outcome :=
  .next (complete s (runAdvance s.cfg s.snap).result)

end Sys2Proof.Machine
end

