-- ==== Sys2Proof/Machine/Session.lean ====
section
/-! DEFINITION. The session-key iterator and DERIVE_SESSION (spec/44_session_key.md R180 to R187). -/

namespace Sys2Proof.Machine

/-- The values the iterator carries from one bit to the next (R180). -/
structure Iter where
  accumulator    : Ksn
  transactionKey : Key
  rounds         : Nat
deriving DecidableEq, Repr

/-- The window `accumulator[16:80)` a round is fed (R180, R184). -/
def window (accumulator : Ksn) : Block :=
  slice accumulator 16 80

/-- The bit indices the loop visits, 59 to 79 in ascending order (R180 step 3, R182). -/
def counterBits : List Nat :=
  List.range' 59 21

/-- The iterator before its first bit: the counter zeroed, the key a copy of the IPEK, no round (R180 steps 1 and 2). -/
def iterStart (ipek : Key) (ksn : Ksn) : Iter where
  accumulator := zeroCounter ksn
  transactionKey := ipek
  rounds := 0

/-- The loop body for bit i: where the original KSN has it, set it in the accumulator, then make a round on the window
(R180 step 3). -/
def iterBit (c : Cipher) (ksn : Ksn) (it : Iter) (i : Nat) : Run Iter :=
  if bitAt ksn i then
    let acc := setBit it.accumulator i
    (advance c it.transactionKey (window acc)).andThen fun k =>
    Run.pure { accumulator := acc, transactionKey := k, rounds := it.rounds + 1 }
  else Run.pure it

/-- The loop over the bits still to visit (R180 step 3). -/
def iterBits (c : Cipher) (ksn : Ksn) (it : Iter) : List Nat → Run Iter
  | [] => Run.pure it
  | i :: is => (iterBit c ksn it i).andThen fun it' => iterBits c ksn it' is

/-- `deriveSession(ipek, ksn)`: the transaction key and the number of rounds made (R180). -/
def deriveSession (c : Cipher) (ipek : Key) (ksn : Ksn) : Run (Key × Nat) :=
  (iterBits c ksn (iterStart ipek ksn) counterBits).andThen fun it =>
  Run.pure (it.transactionKey, it.rounds)

/-- What DERIVE_SESSION computes from its snapshot (R181; spec/40_command_lifecycle.md R103). -/
def runDeriveSession (cfg : Config) (i : Snapshot) : Run (Key × Nat) :=
  deriveSession cfg.cipher i.kin i.ksn

/-- DERIVE_SESSION (R181): the completion step of the accepted command. It checks neither lengths nor the counter (R187). -/
def execDeriveSession (s : State) : Outcome :=
  .next (complete s (runDeriveSession s.cfg s.snap).result)

end Sys2Proof.Machine
end

