-- ==== Sys2Proof/Machine/Masker.lean ====
section
/-! DEFINITION. The key masker and the public entry points: APPLY_MASK, COMPUTE_KEY and COMPUTE_DATA_KEY_VARIANT
(spec/45_key_masker.md R200 to R213). -/

namespace Sys2Proof.Machine

/-- `applyMask(derivedKey, u)` (R200). -/
def applyMask (m : UsageMasks) (derivedKey : Key) (u : Usage) : Key :=
  derivedKey ^^^ usageMask m u

/-- `computeKey(bdk, ksn, u)` (R206). -/
def computeKey (cfg : Config) (bdk : Key) (ksn : Ksn) (u : Usage) : Run (Key × Nat) :=
  (deriveIpek cfg.cipher bdk ksn).andThen fun ipek =>
  (deriveSession cfg.cipher ipek ksn).andThen fun kn =>
  Run.pure (applyMask cfg.masks kn.1 u, kn.2)

/-- `part1 ∥ part2`: the masked key encrypts its own halves (R210 steps 2 to 4). -/
def selfEncrypt (c : Cipher) (derivedKey : Key) : Run Key :=
  (callTenc c derivedKey (leftHalf derivedKey)).andThen fun part1 =>
  (callTenc c derivedKey (rightHalf derivedKey)).andThen fun part2 =>
  Run.pure (part1 ++ part2)

/-- `computeDataKeyVariant(bdk, ksn)` (R210). -/
def computeDataKeyVariant (cfg : Config) (bdk : Key) (ksn : Ksn) : Run (Key × Nat) :=
  (computeKey cfg bdk ksn .dataRequest).andThen fun kn =>
  (selfEncrypt cfg.cipher kn.1).andThen fun k =>
  Run.pure (k, kn.2)

/-- What APPLY_MASK u computes from its snapshot (R201; spec/40_command_lifecycle.md R103). -/
def runApplyMask (cfg : Config) (i : Snapshot) (u : Usage) : Run (Key × Nat) :=
  Run.pure (applyMask cfg.masks i.kin u, 0)

/-- What COMPUTE_KEY u computes from its snapshot: the length check, then the key (R207; spec/40_command_lifecycle.md
R103). -/
def runComputeKey (cfg : Config) (i : Snapshot) (u : Usage) : Run (Key × Nat) :=
  (checkLengths cfg.ksnOverlength i.len).andThen fun _ => computeKey cfg i.bdk i.ksn u

/-- What COMPUTE_DATA_KEY_VARIANT computes from its snapshot: the length check, then the variant (R211;
spec/40_command_lifecycle.md R103). -/
def runComputeDataKeyVariant (cfg : Config) (i : Snapshot) : Run (Key × Nat) :=
  (checkLengths cfg.ksnOverlength i.len).andThen fun _ => computeDataKeyVariant cfg i.bdk i.ksn

/-- APPLY_MASK u (R201): the completion step of the accepted command. -/
def execApplyMask (u : Usage) (s : State) : Outcome :=
  .next (complete s (runApplyMask s.cfg s.snap u).result)

/-- COMPUTE_KEY u (R207): the completion step of the accepted command. -/
def execComputeKey (u : Usage) (s : State) : Outcome :=
  .next (complete s (runComputeKey s.cfg s.snap u).result)

/-- COMPUTE_DATA_KEY_VARIANT (R211): the completion step of the accepted command. -/
def execComputeDataKeyVariant (s : State) : Outcome :=
  .next (complete s (runComputeDataKeyVariant s.cfg s.snap).result)

end Sys2Proof.Machine
end

