-- ==== Sys2Proof/Syntax.lean ====
section
/-! DEFINITION. The commands of DUKPT-ENG: one constructor for each row of spec/opcode_table.json (spec/30_encoding.md
R82). The only operand in a command word is the usage of APPLY_MASK and COMPUTE_KEY; every data operand comes from a
register (R81, R88). A usage is one of six names (R85), so no term of this type is ill formed: the checks of R86 on the
raw fields of a word stand in Sys2Proof/WellFormed.lean. -/

namespace Sys2Proof

/-- A command (spec/30_encoding.md R82). -/
inductive Instr where
  /-- ADVANCE, OP 1 (spec/42_round_function.md R141). -/
  | advance
  /-- DERIVE_IPEK, OP 2 (spec/43_ipek.md R161). -/
  | deriveIpek
  /-- DERIVE_SESSION, OP 3 (spec/44_session_key.md R181). -/
  | deriveSession
  /-- APPLY_MASK u, OP 4 (spec/45_key_masker.md R201). -/
  | applyMask (u : Usage)
  /-- COMPUTE_KEY u, OP 5 (spec/45_key_masker.md R207). -/
  | computeKey (u : Usage)
  /-- COMPUTE_DATA_KEY_VARIANT, OP 6 (spec/45_key_masker.md R211). -/
  | computeDataKeyVariant
deriving DecidableEq, Repr

end Sys2Proof
end

