-- ==== Sys2Proof/Machine/Dispatch.lean ====
section
/-! DEFINITION. The meaning of each command: the completion step of the accepted command whose word decodes to it
(spec/40_command_lifecycle.md R103, R105). -/

namespace Sys2Proof.Machine

def exec (i : Instr) (s : State) : Host.Outcome State Fault Refusal :=
  match i with
  | .advance => Sys2Proof.Machine.execAdvance s
  | .deriveIpek => Sys2Proof.Machine.execDeriveIpek s
  | .deriveSession => Sys2Proof.Machine.execDeriveSession s
  | .applyMask u => Sys2Proof.Machine.execApplyMask u s
  | .computeKey u => Sys2Proof.Machine.execComputeKey u s
  | .computeDataKeyVariant => Sys2Proof.Machine.execComputeDataKeyVariant s

end Sys2Proof.Machine
end

