-- ==== Sys2Proof/WellFormed.lean ====
section
/-! DEFINITION. Which command words are legal, as the four conditions of spec/30_encoding.md R86 on the three raw
fields of R84. It is written apart from the decoder (R87), which it is compared with. -/

namespace Sys2Proof

/-- The decoded triple (OP, USAGE, RES), unsigned fields (spec/30_encoding.md R84). -/
structure CommandFields where
  op    : BitVec 4
  usage : BitVec 3
  res   : BitVec 25
deriving DecidableEq, Repr

/-- R86 item 1, the negation: OP is one of 1 to 6. -/
def CommandFields.opDefined (f : CommandFields) : Bool :=
  1 ≤ f.op.toNat && f.op.toNat ≤ 6

/-- R86 item 2, the negation: RES is 0. -/
def CommandFields.resZero (f : CommandFields) : Bool :=
  f.res == 0

/-- The opcodes that take a usage: APPLY_MASK and COMPUTE_KEY (R82). -/
def CommandFields.takesUsage (f : CommandFields) : Bool :=
  f.op == 4 || f.op == 5

/-- R86 item 3, the negation: where the opcode takes a usage, USAGE is at most 5. -/
def CommandFields.usageInRange (f : CommandFields) : Bool :=
  !f.takesUsage || f.usage.toNat ≤ 5

/-- R86 item 4, the negation: where the opcode takes no usage, USAGE is 0. -/
def CommandFields.usageZeroElsewhere (f : CommandFields) : Bool :=
  f.takesUsage || f.usage == 0

/-- A command word with these fields is legal: none of the four conditions of R86 holds. -/
def CommandFields.wellFormed (f : CommandFields) : Bool :=
  f.opDefined && f.resZero && f.usageInRange && f.usageZeroElsewhere

end Sys2Proof
end

