-- ==== Sys2Proof/Decode.lean ====
section
/-! DEFINITION. The decoder of spec/30_encoding.md R87, total on every 32-bit word and rejecting by name, and after it
the encoder, written from the encoding tables R81, R82 and R85. -/

namespace Sys2Proof

/-- Why a word is illegal: the four conditions of spec/30_encoding.md R86. -/
inductive Illegal where
  /-- Item 1: OP = 0 or OP ≥ 7. -/
  | undefinedOpcode
  /-- Item 2: RES ≠ 0. -/
  | reservedBits
  /-- Item 3: OP is 4 or 5 and USAGE ≥ 6. -/
  | undefinedUsage
  /-- Item 4: the opcode takes no usage and USAGE ≠ 0. -/
  | unusedUsage
deriving DecidableEq, Repr

/-- The fields of a command word: OP = w[3:0], USAGE = w[6:4], RES = w[31:7] (R81, R84). -/
def fieldsOf (w : Word) : CommandFields where
  op := w.extractLsb' 0 4
  usage := w.extractLsb' 4 3
  res := w.extractLsb' 7 25

/-- `usage(n)` of R87: the usage that R85 gives code n. -/
def usageOf (code : BitVec 3) : Option Usage :=
  match code.toNat with
  | 0 => some .pinRequest
  | 1 => some .pinResponse
  | 2 => some .macRequest
  | 3 => some .macResponse
  | 4 => some .dataRequest
  | 5 => some .dataResponse
  | _ => none

/-- A command that takes no usage: legal when USAGE = 0 (R87, cases 1, 2, 3 and 6). -/
def withoutUsage (usage : BitVec 3) (i : Instr) : Except Illegal Instr :=
  if usage = 0 then .ok i else .error .unusedUsage

/-- A command that takes a usage: legal when USAGE ≤ 5 (R87, cases 4 and 5). -/
def withUsage (usage : BitVec 3) (mk : Usage → Instr) : Except Illegal Instr :=
  match usageOf usage with
  | some u => .ok (mk u)
  | none => .error .undefinedUsage

/-- The case on OP of R87, for a word whose RES is 0. -/
def decodeOpcode (op : BitVec 4) (usage : BitVec 3) : Except Illegal Instr :=
  match op.toNat with
  | 1 => withoutUsage usage .advance
  | 2 => withoutUsage usage .deriveIpek
  | 3 => withoutUsage usage .deriveSession
  | 4 => withUsage usage .applyMask
  | 5 => withUsage usage .computeKey
  | 6 => withoutUsage usage .computeDataKeyVariant
  | _ => .error .undefinedOpcode

/-- The decoder of R87: every word is one of the 16 commands of R83 or illegal. -/
def decode (w : Word) : Except Illegal Instr :=
  let f := fieldsOf w
  if f.res ≠ 0 then .error .reservedBits else decodeOpcode f.op f.usage

/-- The code of a usage (R85). -/
def usageCode : Usage → BitVec 3
  | .pinRequest => 0
  | .pinResponse => 1
  | .macRequest => 2
  | .macResponse => 3
  | .dataRequest => 4
  | .dataResponse => 5

/-- OP and USAGE of a command; USAGE is 0 where the opcode takes none (R82, R86 item 4). -/
def instrFields : Instr → CommandFields
  | .advance => { op := 1, usage := 0, res := 0 }
  | .deriveIpek => { op := 2, usage := 0, res := 0 }
  | .deriveSession => { op := 3, usage := 0, res := 0 }
  | .applyMask u => { op := 4, usage := usageCode u, res := 0 }
  | .computeKey u => { op := 5, usage := usageCode u, res := 0 }
  | .computeDataKeyVariant => { op := 6, usage := 0, res := 0 }

/-- A word from its three fields: RES above USAGE above OP (R81). -/
def packFields (f : CommandFields) : Word :=
  f.res ++ f.usage ++ f.op

/-- The command word of a command (R83). -/
def encode (i : Instr) : Word :=
  packFields (instrFields i)

/-- The command word of a row of spec/opcode_table.json from its number: the bits at and above `nbits` are 0, bit 0 is
the word's least significant bit. A command is always one 32-bit word (R80). -/
def tableWord (nbits w : Nat) : Word :=
  BitVec.ofNat 32 (w % 2 ^ nbits)

/-- What the decoder reads from a row's word, as the host numbers it. -/
def decodeTableWord (nbits w : Nat) : Option Instr :=
  match decode (tableWord nbits w) with
  | .ok i => some i
  | .error _ => none

end Sys2Proof
end

