-- ==== Sys2Proof/Machine/HostProgram.lean ====
section
/-! DEFINITION. The host agent: its program lines and what each does (spec/30_encoding.md R89), the pseudo-instructions
and their expansions (R90). Labels and names are numbers (log 13). -/

namespace Sys2Proof.Machine

/-- The value a name holds, none before it is read. -/
def lookupValue (name : Nat) : List (Nat × Word) → Option Word
  | [] => none
  | (m, v) :: rest => if m = name then some v else lookupValue name rest

/-- A name given a value; the list stays sorted by name with no repeats. -/
def storeValue (name : Nat) (w : Word) : List (Nat × Word) → List (Nat × Word)
  | [] => [(name, w)]
  | (m, v) :: rest =>
    if name < m then (name, w) :: (m, v) :: rest
    else if name = m then (name, w) :: rest
    else (m, v) :: storeValue name w rest

/-- The line after a label, counted from the list's start: a label is a name for the next line (R89). -/
def afterLabel (l : Nat) : List HostLine → Option Nat
  | [] => none
  | line :: rest => if line = .label l then some 1 else (afterLabel l rest).map (· + 1)

/-- `name[hi:lo]` as a number (spec/00_scope.md R13). -/
def fieldValue (w : Word) (hi lo : Nat) : Nat :=
  (w.extractLsb' lo (hi - lo + 1)).toNat

/-- The host goes on to line pc. -/
def hostGoto (s : State) (pc : Nat) : State :=
  { s with host := { s.host with pc := pc } }

/-- The bus access of a host line (R89). -/
def lineAccess (base : Nat) (r : RegWord) (k : AccessKind) : Access where
  addr := base + regOffset r
  width := 32
  kind := k

/-- The host keeps a value it has read. -/
def hostStore (s : State) (name : Nat) (w : Word) : State :=
  { s with host := { s.host with values := storeValue name w s.host.values } }

/-- A branch of the host on a value it has read: no bus access (R89). The field and the name are looked at whether or not
the branch is taken, the label only when it is: an untaken branch to a label that does not stand in the program goes on to
the next line. The spec is silent on each of these ill-formed branches: DESIGN CHOICE (log 13). -/
def hostBranch (s : State) (name hi lo v l : Nat) : Outcome :=
  if lo ≤ hi ∧ hi ≤ 31 then
    match lookupValue name s.host.values with
    | none => .fault (.hostUnreadName name)
    | some w =>
      if fieldValue w hi lo = v then
        match afterLabel l s.host.program with
        | none => .fault (.hostMissingLabel l)
        | some pc => .next (hostGoto s pc)
      else .next (hostGoto s (s.host.pc + 1))
  else .fault (.hostIllFormedField hi lo)

/-- One line of the host's program (R89). -/
def hostLine (s : State) (line : HostLine) : Outcome :=
  match line with
  | .write r w => .next (hostGoto (performAccess s (lineAccess s.cfg.base r (.write w))) (s.host.pc + 1))
  | .read r name =>
    .next (hostGoto (hostStore (performAccess s (lineAccess s.cfg.base r .read)) name (readReg s r)) (s.host.pc + 1))
  | .label _ => .next (hostGoto s (s.host.pc + 1))
  | .branch name hi lo v l => hostBranch s name hi lo v l

/-- The host's turn: its next line, nothing past its last (spec/40_command_lifecycle.md R110). -/
def hostTurn (s : State) : Outcome :=
  match s.host.program[s.host.pc]? with
  | some line => hostLine s line
  | none => .next s

/-- A pseudo-instruction, or a plain line (R90). -/
inductive Pseudo where
  | line (l : HostLine)
  /-- `cmd MNEMONIC` or `cmd MNEMONIC USAGE`. -/
  | cmd (i : Instr)
  /-- `load128 BDK, H`. -/
  | load128Bdk (h : Key)
  /-- `load128 KIN, H`. -/
  | load128Kin (h : Key)
  /-- `load80 KSN, H`. -/
  | load80Ksn (h : Ksn)
  /-- `load64 DIN, H`. -/
  | load64Din (h : Block)
  /-- `wait`, with the name it reads STATUS into; its label is fresh (`assemble`). -/
  | wait (name : Nat)
  /-- `collect -> K`: KOUT words 0 to 3 into the names k to k + 3. -/
  | collect (k : Nat)
deriving DecidableEq, Repr

/-- The label a line stands for or branches to. -/
def lineLabel : HostLine → Option Nat
  | .write _ _ => none
  | .read _ _ => none
  | .label l => some l
  | .branch _ _ _ _ l => some l

/-- The expansion of a pseudo-instruction (R90), by the word layout of spec/20_memory.md R63; l is the label `wait` takes. -/
def expand (l : Nat) : Pseudo → List HostLine
  | .line h => [h]
  | .cmd i => [.write .cmd (encode i)]
  | .load128Bdk h =>
    [.write (.bdk 0) (wordAt h 0), .write (.bdk 1) (wordAt h 1), .write (.bdk 2) (wordAt h 2), .write (.bdk 3) (wordAt h 3)]
  | .load128Kin h =>
    [.write (.kin 0) (wordAt h 0), .write (.kin 1) (wordAt h 1), .write (.kin 2) (wordAt h 2), .write (.kin 3) (wordAt h 3)]
  | .load80Ksn h =>
    [.write (.ksn 0) (wordAt (ksnImage h) 0), .write (.ksn 1) (wordAt (ksnImage h) 1), .write (.ksn 2) (wordAt (ksnImage h) 2)]
  | .load64Din h => [.write (.din 0) (wordAt h 0), .write (.din 1) (wordAt h 1)]
  | .wait name => [.label l, .read .status name, .branch name 0 0 1 l]
  | .collect k => [.read (.kout 0) k, .read (.kout 1) (k + 1), .read (.kout 2) (k + 2), .read (.kout 3) (k + 3)]

/-- The label a plain line of a program names; the others name none of their own. -/
def Pseudo.ownLabel : Pseudo → Option Nat
  | .line h => lineLabel h
  | .cmd _ | .load128Bdk _ | .load128Kin _ | .load80Ksn _ | .load64Din _ | .wait _ | .collect _ => none

/-- The first label above every label the program's own lines name. -/
def freshFrom : List Pseudo → Nat
  | [] => 0
  | x :: xs =>
    match x.ownLabel with
    | some l => max (l + 1) (freshFrom xs)
    | none => freshFrom xs

/-- The lines of a program, the first pseudo-instruction with label l, each next one with the next label. -/
def assembleFrom (l : Nat) : List Pseudo → List HostLine
  | [] => []
  | x :: xs => expand l x ++ assembleFrom (l + 1) xs

/-- A host program with its pseudo-instructions expanded, each `wait` with a fresh label: one that no other line names
(R90). Which number the fresh label is, is the model's (log 13). -/
def assemble (p : List Pseudo) : List HostLine :=
  assembleFrom (freshFrom p) p

/-- `K = K0 ∥ K1 ∥ K2 ∥ K3`, what `collect -> K` has collected; none before all four words are read (R90). -/
def collected (k : Nat) (a : HostAgent) : Option Key :=
  match lookupValue k a.values, lookupValue (k + 1) a.values, lookupValue (k + 2) a.values, lookupValue (k + 3) a.values with
  | some k0, some k1, some k2, some k3 => some (k0 ++ k1 ++ k2 ++ k3)
  | _, _, _, _ => none

/-- A line is well formed in a program: a branch has a field of a word and a label that stands in the program (R89;
spec/00_scope.md R13). -/
def lineWellFormed (p : List HostLine) (line : HostLine) : Bool :=
  match line with
  | .write _ _ => true
  | .read _ _ => true
  | .label _ => true
  | .branch _ hi lo _ l => decide (lo ≤ hi ∧ hi ≤ 31) && p.contains (.label l)

/-- Every line of a host program is well formed. -/
def programWellFormed (p : List HostLine) : Bool :=
  p.all (lineWellFormed p)

end Sys2Proof.Machine
end

