-- ==== Sys2Proof/Machine/Command.lean ====
section
/-! DEFINITION. The outcome of a command as one function of its snapshot and the build's parameters
(spec/40_command_lifecycle.md R103, the spec's `exec(i)`). `Machine.exec` completes a decoded command with it; the step
completes an illegal word with it too. -/

namespace Sys2Proof.Machine

/-- The case on the decoded command of R103. -/
def runOf (i : Instr) (cfg : Config) (snap : Snapshot) : Run (Key × Nat) :=
  match i with
  | .advance => runAdvance cfg snap
  | .deriveIpek => runDeriveIpek cfg snap
  | .deriveSession => runDeriveSession cfg snap
  | .applyMask u => runApplyMask cfg snap u
  | .computeKey u => runComputeKey cfg snap u
  | .computeDataKeyVariant => runComputeDataKeyVariant cfg snap

/-- `exec(i)` of R103: decode the snapshot's command word, raise IllegalCommand where it is illegal, run it otherwise. -/
def commandRun (cfg : Config) (snap : Snapshot) : Run (Key × Nat) :=
  match decode snap.cmd with
  | .ok i => runOf i cfg snap
  | .error _ => Run.raise .illegalCommand

end Sys2Proof.Machine
end

