-- ==== Sys2Proof/Machine/Work.lean ====
section
/-! DEFINITION. The internal work of a BUSY engine, one stage at a time, over the working values of spec/10_state.md R35.
No host access can see it (R36), and the completion step evaluates the command from its snapshot whatever stage the work
has reached (R36; spec/40_command_lifecycle.md R105; log 5, 6). A stage makes at most one cipher call, in the order of
spec/41_datapath_primitives.md R130. -/

namespace Sys2Proof.Machine

/-- A call's answer stored by `f`, or the work failed. -/
def workAnswer (w : Working) (r : Run Block) (f : Block → Working) : Working :=
  match r.result with
  | .ok b => f b
  | .error e => { w with stage := .failed e }

/-- The iterator's values before its first bit (spec/44_session_key.md R180 steps 1 and 2). -/
def beginLoop (snap : Snapshot) (ipek : Key) (w : Working) : Working :=
  { w with
    accumulator := zeroCounter snap.ksn
    transactionKey := ipek
    bitIndex := 59
    stage := .testBit }

/-- The stage after the iterator's last bit (spec/44_session_key.md R180 step 4; spec/45_key_masker.md R206). -/
def afterLoop (i : Instr) : Stage :=
  match i with
  | .computeKey _ => .mask
  | .computeDataKeyVariant => .mask
  | .advance => .finished
  | .deriveIpek => .finished
  | .deriveSession => .finished
  | .applyMask _ => .finished

/-- On to the next counter bit, or past the loop after bit 79 (spec/44_session_key.md R180 step 3). -/
def nextBit (i : Instr) (w : Working) : Working :=
  if w.bitIndex < 79 then { w with bitIndex := w.bitIndex + 1, stage := .testBit }
  else { w with stage := afterLoop i }

/-- The first stage of each command; the length check comes first where there is one (spec/40_command_lifecycle.md
R103). -/
def beginWork (cfg : Config) (snap : Snapshot) (i : Instr) (w : Working) : Working :=
  match i with
  | .advance => { w with stage := .roundRight }
  | .deriveIpek => { w with stage := .ipekLeft }
  | .deriveSession => beginLoop snap snap.kin w
  | .applyMask _ => { w with stage := .mask }
  | .computeKey _ | .computeDataKeyVariant =>
    match (checkLengths cfg.ksnOverlength snap.len).result with
    | .ok _ => { w with stage := .ipekLeft }
    | .error e => { w with stage := .failed e }

/-- The key of a round: KIN for ADVANCE, the transaction key for the iterator (spec/42_round_function.md R141,
spec/44_session_key.md R180). -/
def roundKey (snap : Snapshot) (i : Instr) (w : Working) : Key :=
  match i with
  | .advance => snap.kin
  | .deriveIpek | .deriveSession | .applyMask _ | .computeKey _ | .computeDataKeyVariant => w.transactionKey

/-- The data of a round: DIN for ADVANCE, the window for the iterator (spec/42_round_function.md R141,
spec/44_session_key.md R180). -/
def roundData (snap : Snapshot) (i : Instr) (w : Working) : Block :=
  match i with
  | .advance => snap.din
  | .deriveIpek | .deriveSession | .applyMask _ | .computeKey _ | .computeDataKeyVariant => window w.accumulator

/-- The usage a command masks with (spec/45_key_masker.md R201, R207, R211). -/
def workUsage (i : Instr) : Usage :=
  match i with
  | .applyMask u => u
  | .computeKey u => u
  | .advance | .deriveIpek | .deriveSession | .computeDataKeyVariant => .dataRequest

/-- What follows the IPEK: DERIVE_IPEK is done, COMPUTE_KEY and COMPUTE_DATA_KEY_VARIANT iterate (spec/45_key_masker.md
R206). -/
def afterIpek (snap : Snapshot) (i : Instr) (w : Working) : Working :=
  match i with
  | .computeKey _ | .computeDataKeyVariant => beginLoop snap w.ipek w
  | .advance | .deriveIpek | .deriveSession | .applyMask _ => { w with stage := .finished }

/-- What follows a round: ADVANCE is done, r1 and r2 its result; the iterator takes them as its new transaction key and
goes on to the next bit (spec/44_session_key.md R180). -/
def afterRound (i : Instr) (w : Working) : Working :=
  match i with
  | .advance => { w with stage := .finished }
  | .deriveIpek | .deriveSession | .applyMask _ | .computeKey _ | .computeDataKeyVariant =>
    nextBit i { w with transactionKey := w.r1 ++ w.r2 }

/-- The usage mask is looked up. COMPUTE_KEY and COMPUTE_DATA_KEY_VARIANT mask the transaction key with it, and the latter
goes on to encrypt the halves (spec/45_key_masker.md R206, R210); APPLY_MASK touches no derivation state (R203), its result
is KIN under the mask (`workKey`). -/
def workMask (cfg : Config) (i : Instr) (w : Working) : Working :=
  let m := usageMask cfg.masks (workUsage i)
  match i with
  | .computeKey _ => { w with mask := m, derivedKey := w.transactionKey ^^^ m, stage := .finished }
  | .computeDataKeyVariant => { w with mask := m, derivedKey := w.transactionKey ^^^ m, stage := .part1 }
  | .advance | .deriveIpek | .deriveSession | .applyMask _ => { w with mask := m, stage := .finished }

/-- Steps 1 to 3 of a round (spec/42_round_function.md R140). -/
def workRoundRight (cfg : Config) (snap : Snapshot) (i : Instr) (w : Working) : Working :=
  let keyLeft := leftHalf (roundKey snap i w)
  let keyRight := rightHalf (roundKey snap i w)
  workAnswer w (callSenc cfg.cipher keyLeft (roundData snap i w ^^^ keyRight)) fun x =>
    { w with keyLeft := keyLeft, keyRight := keyRight, r2 := x ^^^ keyRight, stage := .roundLeft }

/-- Steps 4 to 8 of a round (spec/42_round_function.md R140); the result is r1 and r2 side by side. -/
def workRoundLeft (cfg : Config) (snap : Snapshot) (i : Instr) (w : Working) : Working :=
  let keyPrime := roundKey snap i w ^^^ krm
  workAnswer w (callSenc cfg.cipher (leftHalf keyPrime) (roundData snap i w ^^^ rightHalf keyPrime)) fun x =>
    afterRound i { w with keyPrime := keyPrime, r1 := x ^^^ rightHalf keyPrime, rounds := w.rounds + 1 }

/-- The iterator's loop test, on the original KSN; a set bit is set in the accumulator before its round
(spec/44_session_key.md R180). -/
def workTestBit (snap : Snapshot) (i : Instr) (w : Working) : Working :=
  if bitAt snap.ksn w.bitIndex then
    { w with accumulator := setBit w.accumulator w.bitIndex, stage := .roundRight }
  else nextBit i w

/-- One stage of the work of a decoded command. -/
def workStage (cfg : Config) (snap : Snapshot) (i : Instr) (w : Working) : Working :=
  match w.stage with
  | .start => beginWork cfg snap i w
  | .ipekLeft =>
    workAnswer w (callTenc cfg.cipher snap.bdk (ipekBlock snap.ksn)) fun x =>
      { w with ipek := x ++ rightHalf w.ipek, stage := .ipekRight }
  | .ipekRight =>
    workAnswer w (callTenc cfg.cipher (snap.bdk ^^^ krm) (ipekBlock snap.ksn)) fun x =>
      afterIpek snap i { w with ipek := leftHalf w.ipek ++ x }
  | .testBit => workTestBit snap i w
  | .roundRight => workRoundRight cfg snap i w
  | .roundLeft => workRoundLeft cfg snap i w
  | .mask => workMask cfg i w
  | .part1 =>
    workAnswer w (callTenc cfg.cipher w.derivedKey (leftHalf w.derivedKey)) fun x =>
      { w with part1 := x, stage := .part2 }
  | .part2 =>
    workAnswer w (callTenc cfg.cipher w.derivedKey (rightHalf w.derivedKey)) fun x =>
      { w with part2 := x, stage := .finished }
  | .finished => w
  | .failed _ => w

/-- One stage of the work of the snapshot's command; an illegal word fails at once (spec/40_command_lifecycle.md R103). -/
def workStep (cfg : Config) (snap : Snapshot) (w : Working) : Working :=
  match decode snap.cmd with
  | .ok i => workStage cfg snap i w
  | .error _ => { w with stage := .failed .illegalCommand }

/-- The work of a snapshot after n stages. -/
def workAfter (cfg : Config) (snap : Snapshot) : Nat → Working
  | 0 => Working.cleared
  | n + 1 => workStep cfg snap (workAfter cfg snap n)

/-- The result of each command's finished work. -/
def workKey (snap : Snapshot) (i : Instr) (w : Working) : Key :=
  match i with
  | .advance => w.r1 ++ w.r2
  | .deriveIpek => w.ipek
  | .deriveSession => w.transactionKey
  | .applyMask _ => snap.kin ^^^ w.mask
  | .computeKey _ => w.derivedKey
  | .computeDataKeyVariant => w.part1 ++ w.part2

/-- The outcome the work has come to, none while it goes on. -/
def workOutcome (snap : Snapshot) (w : Working) : Option (Except EngineError (Key × Nat)) :=
  match w.stage, decode snap.cmd with
  | .finished, .ok i => some (.ok (workKey snap i w, w.rounds))
  | .failed e, _ => some (.error e)
  | _, _ => none

/-- A BUSY engine does one stage of work; an IDLE one has none to do. -/
def tick (s : State) : State :=
  match s.seq with
  | .busy => { s with work := workStep s.cfg s.snap s.work }
  | .idle => s

end Sys2Proof.Machine
end

