-- ==== Sys2Proof/Machine/Step.lean ====
section
/-! DEFINITION. One step of the machine: the next agent in the schedule moves (spec/00_scope.md R17,
spec/20_memory.md R68). -/

namespace Sys2Proof.Machine

/-- The completion of the command in flight: its word is decoded from the snapshot and run, or completes with
IllegalCommand (spec/40_command_lifecycle.md R103, R105; spec/20_memory.md R72). -/
def completeCommand (s : State) : Outcome :=
  match decode s.snap.cmd with
  | .ok i => exec i s
  | .error _ => .next (fail s .illegalCommand)

/-- The engine's turn to complete; an IDLE engine has nothing to complete (spec/10_state.md R34). -/
def completionTurn (s : State) : Outcome :=
  match s.seq with
  | .busy => completeCommand s
  | .idle => .next s

/-- What one agent's turn does. -/
def takeTurn (t : Turn) (s : State) : Outcome :=
  match t with
  | .host => hostTurn s
  | .access a => .next (performAccess s a)
  | .tick => .next (tick s)
  | .complete => completionTurn s
  | .reset => .next (resetEngine s)

/-- The turn when the schedule is used up: a BUSY engine completes (every accepted command completes,
spec/40_command_lifecycle.md R105), else the host goes on with its program, else the engine waits for a CMD write
(spec/70_reset_and_hazards.md R292). DESIGN CHOICE (log 1). -/
def defaultTurn (s : State) : Outcome :=
  match s.seq with
  | .busy => completeCommand s
  | .idle => hostTurn s

/-- One step. -/
def step (s : State) : Outcome :=
  match s.turns with
  | t :: ts => takeTurn t { s with turns := ts }
  | [] => defaultTurn s

/-- The machine with a command word accepted, so that the very next step completes it: CMD and the snapshot hold the
word, the operands are those of the registers, the engine is BUSY, and no other turn comes before (log 16). -/
def State.withFetchWord (s : State) (nbits w : Nat) : State :=
  { accept s (tableWord nbits w) with turns := [] }

end Sys2Proof.Machine
end

