-- ==== Sys2Proof/Safety.lean ====
section
/-! DEFINITION. What the claims call a good state and a safe run. -/

namespace Sys2Proof.Machine

/-- The values STATUS.ERR ever takes: never 3 and never 6 to 15 (spec/60_exceptions.md R260, R264). -/
def ErrNamed (e : BitVec 4) : Prop :=
  e = 0 ∨ e = 1 ∨ e = 2 ∨ e = 4 ∨ e = 5

/-- What the rules say of every state the engine can be in. -/
structure Inv (s : State) : Prop where
  /-- R260, R264: the error codes. -/
  errNamed : ErrNamed s.err
  /-- spec/10_state.md R38: ROUNDS is 0 to 21. -/
  roundsLegal : s.rounds.toNat ≤ 21
  /-- spec/60_exceptions.md R266: an error leaves KOUT 0^128 and ROUNDS 0. -/
  errorLeavesNothing : s.err ≠ 0 → s.kout = 0 ∧ s.rounds = 0
  /-- spec/40_command_lifecycle.md R108: while BUSY, DONE, ERR and ROUNDS are 0, and CMD holds the running command. -/
  busyShows : s.seq = .busy → s.done = false ∧ s.err = 0 ∧ s.rounds = 0 ∧ s.snap.cmd = s.cmd
  /-- spec/10_state.md R35: nothing of a command survives it. -/
  idleHoldsNothing : s.seq = .idle → s.snap = Snapshot.cleared ∧ s.work = Working.cleared

/-- The working values of a BUSY engine are those of its snapshot's work after some number of stages
(spec/10_state.md R35). -/
def WorkFollowsSnapshot (s : State) : Prop :=
  s.seq = .busy → ∃ n, s.work = workAfter s.cfg s.snap n

/-- The host's values are in their canonical form: names strictly rising. -/
def ValuesSorted (vs : List (Nat × Word)) : Prop :=
  vs.Pairwise fun a b => a.1 < b.1

/-- s runs to t in n steps, with no stop. -/
def Reaches (s : State) (n : Nat) (t : State) : Prop :=
  Host.Core.run Sys2Proof.core n s = .next t

/-- A command has completed with result k after n rounds (spec/40_command_lifecycle.md R106). -/
structure CompletedWith (t : State) (k : Key) (n : Nat) : Prop where
  kout   : t.kout = k
  rounds : t.rounds.toNat = n
  err    : t.err = 0
  idle   : t.seq = .idle
  done   : t.done = true

/-- A command has completed with an error code (spec/40_command_lifecycle.md R107). -/
structure FailedWith (t : State) (code : BitVec 4) : Prop where
  kout   : t.kout = 0
  rounds : t.rounds = 0
  err    : t.err = code
  idle   : t.seq = .idle
  done   : t.done = true

/-- A command has completed with this outcome. -/
def CompletedAs (t : State) (r : Except EngineError (Key × Nat)) : Prop :=
  match r with
  | .ok (k, n) => CompletedWith t k n
  | .error e => FailedWith t (errorCode e)

/-- What no command changes: everything but KOUT, STATUS and the engine's internal state (spec/30_encoding.md R88,
spec/60_exceptions.md R268). -/
structure CommandFrame (s t : State) : Prop where
  cfg     : t.cfg = s.cfg
  cmd     : t.cmd = s.cmd
  ovr     : t.ovr = s.ovr
  ie      : t.ie = s.ie
  len     : t.len = s.len
  bdk     : t.bdk = s.bdk
  ksn     : t.ksn = s.ksn
  kin     : t.kin = s.kin
  din     : t.din = s.din
  host    : t.host = s.host
  turns   : t.turns = s.turns
  replies : t.replies = s.replies

/-- The lengths LEN declares are those COMPUTE_KEY and COMPUTE_DATA_KEY_VARIANT accept (spec/45_key_masker.md R205). -/
def LengthsAccepted (policy : KsnOverlength) (len : Word) : Prop :=
  (len.extractLsb' 0 16).toNat = 128 ∧ 80 ≤ (len.extractLsb' 16 16).toNat ∧
  (80 < (len.extractLsb' 16 16).toNat → policy = .accept)

/-- What the collaborator answers to a call. -/
def callAnswer (c : Cipher) (call : CipherCall) : Option Block :=
  match call with
  | .senc k b => cipherSenc c k b
  | .tenc k b => cipherTenc c k b

/-- Whether a call is to TENC. -/
def isTenc (call : CipherCall) : Bool :=
  match call with
  | .senc _ _ => false
  | .tenc _ _ => true

/-- The window of the round for counter bit i, written without the iterator: KSN bits 16 to i, then zeros
(spec/44_session_key.md R184). -/
def windowAt (ksn : Ksn) (i : Nat) : Block :=
  clearRange (slice ksn 16 80 : Block) (i - 15) 64

/-- A chain of rounds, each on the key the one before it returned (spec/44_session_key.md R186). -/
def advanceChain (c : Cipher) (key : Key) : List Block → Run Key
  | [] => Run.pure key
  | d :: ds => (advance c key d).andThen fun k => advanceChain c k ds

/-- Two vectors agree on every bit that P marks. -/
def AgreeOn {n : Nat} (P : Nat → Prop) (v w : BitVec n) : Prop :=
  ∀ j, P j → bitAt v j = bitAt w j

end Sys2Proof.Machine
end

