-- ==== Sys2Proof/Certificates/Slice0/Obligations.lean ====
section
/-! DEFINITION. The statements for the provers, in the order of OBLIGATIONS.json. -/

open Sys2Proof Sys2Proof.Machine

/-! Reset, invariants and the step. -/

/-- R290, R291: a reset, also in the middle of a command, puts every register at its reset value, the sequencer in IDLE,
clears the internal state (that cleared is zero: log 7) and drives irq low; no completion happens, and the build, the host
and the schedule stay (log 14). -/
def Obligations.ResetGivesTheResetValues : Prop :=
  ∀ (s : State) (ts : List Turn), s.turns = .reset :: ts →
    ∃ t, step s = .next t ∧ t.cmd = 0x00000000 ∧ statusWord t = 0x00000000 ∧ ctrlWord t = 0x00000000 ∧
      t.len = 0x00500080 ∧ t.bdk = 0 ∧ t.ksn = 0 ∧ t.kin = 0 ∧ t.din = 0 ∧ t.kout = 0 ∧
      t.seq = .idle ∧ t.snap = Snapshot.cleared ∧ t.work = Working.cleared ∧ irq t = false ∧
      t.cfg = s.cfg ∧ t.host = s.host ∧ t.turns = ts ∧ t.replies = s.replies

/-- The state right after reset meets the invariants. That cleared internal state is zero is log 7, the work's stages are
log 6, the host's list of values and that there is no host program at reset are log 13. -/
def Obligations.ResetStateMeetsTheInvariants : Prop :=
  Inv State.reset ∧ WorkFollowsSnapshot State.reset ∧ ValuesSorted State.reset.host.values

/-- Every step keeps the engine's invariant: the named error codes, 0 to 21 rounds, nothing left by an error, what STATUS
and CMD show while BUSY, nothing left of a command while IDLE. -/
def Obligations.EveryStepKeepsTheInvariant : Prop :=
  ∀ s t : State, Inv s → step s = .next t → Inv t

/-- Every step keeps the working values of a BUSY engine on the course of its snapshot's work (the course's stages are
the model's, log 6). -/
def Obligations.EveryStepKeepsTheWorkOnItsCourse : Prop :=
  ∀ s t : State, WorkFollowsSnapshot s → step s = .next t → WorkFollowsSnapshot t

/-- Every step keeps the host's values in their canonical form (the form is the model's, log 13). -/
def Obligations.EveryStepKeepsTheHostValuesSorted : Prop :=
  ∀ s t : State, ValuesSorted s.host.values → step s = .next t → ValuesSorted t.host.values

/-- R33: the usage masks are fixed when the engine is built; no step changes them or any other parameter of the build. -/
def Obligations.EveryStepKeepsTheBuild : Prop :=
  ∀ s t : State, step s = .next t → t.cfg = s.cfg

/-- The engine never hangs, faults or refuses (R105, R268): the only stop is the host's own, at a branch that is ill
formed: a bad field or an unread name, or a missing label where the branch is taken (log 13). -/
def Obligations.OnlyAnIllFormedBranchStopsTheMachine : Prop :=
  ∀ s : State, (∃ t, step s = .next t) ∨
    ((s.turns.head? = some .host ∨ (s.turns = [] ∧ s.seq = .idle)) ∧
      ∃ name hi lo v l, s.host.program[s.host.pc]? = some (.branch name hi lo v l) ∧
        ((¬ (lo ≤ hi ∧ hi ≤ 31) ∧ step s = .fault (.hostIllFormedField hi lo)) ∨
          (lookupValue name s.host.values = none ∧ step s = .fault (.hostUnreadName name)) ∨
          (∃ w, lookupValue name s.host.values = some w ∧ fieldValue w hi lo = v ∧
            afterLabel l s.host.program = none ∧ step s = .fault (.hostMissingLabel l))))

/-- A step of a BUSY engine whose turn it is to complete runs the command its snapshot decodes to, or fails an illegal
word with IllegalCommand; an accepted word is the one the very next step runs. -/
def Obligations.StepRunsTheDecodedCommand : Prop :=
  (∀ (s : State) (i : Instr), s.seq = .busy → s.turns = [] → decode s.snap.cmd = .ok i → step s = exec i s) ∧
  (∀ (s : State) (ts : List Turn) (i : Instr), s.seq = .busy → s.turns = .complete :: ts → decode s.snap.cmd = .ok i →
    step s = exec i { s with turns := ts }) ∧
  (∀ (s : State) (e : Illegal), s.seq = .busy → s.turns = [] → decode s.snap.cmd = .error e →
    ∃ t, step s = .next t ∧ FailedWith t 5 ∧ CommandFrame s t) ∧
  (∀ (s : State) (ts : List Turn) (e : Illegal), s.seq = .busy → s.turns = .complete :: ts → decode s.snap.cmd = .error e →
    ∃ t, step s = .next t ∧ FailedWith t 5 ∧ CommandFrame { s with turns := ts } t) ∧
  (∀ (s : State) (nbits w : Nat) (i : Instr), decodeTableWord nbits w = some i →
    step (s.withFetchWord nbits w) = exec i (s.withFetchWord nbits w))

/-- A step takes the turn at the head of the schedule; with no turn scheduled and no host line left, an IDLE engine
waits (R292; the schedule is the model's, log 1). A stage of work changes the working values of a BUSY engine and nothing
else, and nothing of an IDLE one (the stages are the model's, log 6). -/
def Obligations.StepTakesTheScheduledTurn : Prop :=
  (∀ (s : State) (ts : List Turn) (a : Access), s.turns = .access a :: ts →
    step s = .next (performAccess { s with turns := ts } a)) ∧
  (∀ (s : State) (ts : List Turn), s.turns = .host :: ts → step s = hostTurn { s with turns := ts }) ∧
  (∀ (s : State) (ts : List Turn), s.turns = .tick :: ts → step s = .next (tick { s with turns := ts })) ∧
  (∀ s : State, s.seq = .busy → tick s = { s with work := workStep s.cfg s.snap s.work }) ∧
  (∀ s : State, s.seq = .idle → tick s = s) ∧
  (∀ (s : State) (ts : List Turn), s.turns = .complete :: ts → s.seq = .idle → step s = .next { s with turns := ts }) ∧
  (∀ s : State, s.turns = [] → s.seq = .idle → s.host.program.length ≤ s.host.pc → step s = .next s)

/-! The command lifecycle. -/

/-- R101: a CMD write while BUSY = 0 accepts the word, legal or not, in one step; CMD then reads back as that word (R28);
an illegal word fails at completion, and CMD still reads back as it. -/
def Obligations.AcceptanceStartsTheCommand : Prop :=
  ∀ (s : State) (w : Word), s.seq = .idle →
    ∃ t, busWrite s 0x00 w = t ∧ t.cmd = w ∧ busRead t 0x00 = .data w ∧
      t.snap = { cmd := w, len := s.len, bdk := s.bdk, ksn := s.ksn, kin := s.kin, din := s.din } ∧
      t.done = false ∧ t.err = 0 ∧ t.rounds = 0 ∧ t.busy = true ∧
      t.ovr = s.ovr ∧ t.kout = s.kout ∧ t.ie = s.ie ∧ t.len = s.len ∧
      t.bdk = s.bdk ∧ t.ksn = s.ksn ∧ t.kin = s.kin ∧ t.din = s.din ∧
      (∀ e, decode w = .error e → ∃ u, completionTurn t = .next u ∧ FailedWith u 5 ∧ busRead u 0x00 = .data w)

/-- R104: a CMD write while BUSY = 1 sets OVR and does nothing else; the running command ends as it would have. -/
def Obligations.ACommandWrittenWhileBusyIsDropped : Prop :=
  ∀ (s : State) (w : Word), s.seq = .busy →
    busWrite s 0x00 w = { s with ovr := true } ∧
    ∃ t, completionTurn s = .next t ∧ completionTurn (busWrite s 0x00 w) = .next { t with ovr := true }

/-- R106, R107: the completion step writes KOUT and STATUS by the command's outcome. -/
def Obligations.CompletionWritesTheOutcome : Prop :=
  ∀ s : State, s.seq = .busy →
    (∀ k n, (commandRun s.cfg s.snap).result = .ok (k, n) →
      ∃ t, completionTurn s = .next t ∧ t.kout = k ∧ t.rounds.toNat = n ∧ t.err = 0 ∧ t.busy = false ∧ t.done = true) ∧
    (∀ e, (commandRun s.cfg s.snap).result = .error e →
      ∃ t, completionTurn s = .next t ∧ t.kout = 0 ∧ t.rounds = 0 ∧ t.err = errorCode e ∧ t.busy = false ∧ t.done = true)

/-- R105: completion also clears the snapshot and the working state, and every command changes nothing but KOUT and
STATUS (R88, R268): every other word of the register window reads as before. -/
def Obligations.EveryCommandKeepsItsFrame : Prop :=
  ∀ (i : Instr) (s : State), ∃ t, exec i s = .next t ∧ CommandFrame s t ∧
    t.snap = Snapshot.cleared ∧ t.work = Working.cleared ∧ t.seq = .idle ∧ t.done = true ∧
    (∀ r : RegWord, r ≠ .status → (∀ j, r ≠ .kout j) → readReg t r = readReg s r)

/-- Of R88: the registers each command reads, in its snapshot and nowhere else, and no command writes an operand register,
LEN or CTRL. -/
def Obligations.EachCommandReadsOnlyItsOperands : Prop :=
  ∀ s s' : State, s.cfg = s'.cfg →
    (∀ i : Instr,
      (match i with
        | .advance => s.snap.kin = s'.snap.kin ∧ s.snap.din = s'.snap.din
        | .deriveIpek => s.snap.bdk = s'.snap.bdk ∧ s.snap.ksn = s'.snap.ksn
        | .deriveSession => s.snap.kin = s'.snap.kin ∧ s.snap.ksn = s'.snap.ksn
        | .applyMask _ => s.snap.kin = s'.snap.kin
        | .computeKey _ => s.snap.len = s'.snap.len ∧ s.snap.bdk = s'.snap.bdk ∧ s.snap.ksn = s'.snap.ksn
        | .computeDataKeyVariant => s.snap.len = s'.snap.len ∧ s.snap.bdk = s'.snap.bdk ∧ s.snap.ksn = s'.snap.ksn) →
      ∃ t t', exec i s = .next t ∧ exec i s' = .next t' ∧
        t.kout = t'.kout ∧ t.err = t'.err ∧ t.rounds = t'.rounds ∧ t.done = t'.done ∧ t.seq = t'.seq ∧
        t.bdk = s.bdk ∧ t.ksn = s.ksn ∧ t.kin = s.kin ∧ t.din = s.din ∧ t.len = s.len ∧ t.ie = s.ie)

/-- Every accepted command completes (R105) with the outcome of the snapshot taken at its acceptance (R102), whatever the
host does in between, unless the engine is reset or the host's own program stops. At most the scheduled turns and one
more are taken (that an engine completes once the schedule is used up is the model's reading of R105's fairness, log 1). -/
def Obligations.EveryAcceptedCommandCompletes : Prop :=
  ∀ s : State, s.seq = .busy → .reset ∉ s.turns →
    ∃ n, n ≤ s.turns.length + 1 ∧
      ((∃ t, Reaches s n t ∧ CompletedAs t (commandRun s.cfg s.snap).result) ∨
        (.host ∈ s.turns ∧ ∃ f, Host.Core.run Sys2Proof.core n s = .fault f))

/-- R72, R302: while a command runs, no access of any host changes it, its operands, CMD or KOUT, and a write to an operand
register is stored for the next command. -/
def Obligations.TheRunningCommandIgnoresTheHost : Prop :=
  ∀ s : State, s.seq = .busy →
    (∀ a : Access, (performAccess s a).seq = .busy ∧ (performAccess s a).snap = s.snap ∧
      (performAccess s a).cmd = s.cmd ∧ (performAccess s a).kout = s.kout ∧
      ∃ t u, completionTurn s = .next t ∧ completionTurn (performAccess s a) = .next u ∧
        t.kout = u.kout ∧ t.err = u.err ∧ t.rounds = u.rounds) ∧
    (∀ (k : Key) (j : Fin 4), wordAt (writeReg s (.kin j) (wordAt k j.val)).kin j.val = wordAt k j.val ∧
      wordAt (writeReg s (.bdk j) (wordAt k j.val)).bdk j.val = wordAt k j.val) ∧
    (∀ (k : Ksn) (j : Fin 3), wordAt (ksnImage (writeReg s (.ksn j) (wordAt (ksnImage k) j.val)).ksn) j.val =
      wordAt (ksnImage k) j.val) ∧
    (∀ (d : Block) (j : Fin 2), wordAt (writeReg s (.din j) (wordAt d j.val)).din j.val = wordAt d j.val)

/-- R27, R300: KOUT changes only at a completion, or at a reset. -/
def Obligations.KoutChangesOnlyAtCompletion : Prop :=
  ∀ s t : State, step s = .next t → t.kout ≠ s.kout →
    (s.seq = .busy ∧ t.kout = (complete s (commandRun s.cfg s.snap).result).kout ∧ t.seq = .idle ∧ t.done = true) ∨
    (s.turns.head? = some .reset ∧ t.kout = 0)

/-- R36: the working state changes nothing the host can see. Two states that differ in it alone step to states that
differ in it alone, or stop alike, and every register word reads the same in both. -/
def Obligations.InternalWorkIsInvisible : Prop :=
  ∀ (s : State) (w : Working),
    (∀ r, readReg { s with work := w } r = readReg s r) ∧ irq { s with work := w } = irq s ∧
    (∀ t, step s = .next t → ∃ w', step { s with work := w } = .next { t with work := w' }) ∧
    (∀ f, step s = .fault f → step { s with work := w } = .fault f)

/-- The work over the engine's registers (R35), stage by stage, comes to the command's outcome (R103) within 70 stages,
and to no other (R36 lets a command be one step for this reason; the stages are the model's, log 6). -/
def Obligations.TheWorkReachesTheOutcome : Prop :=
  ∀ (cfg : Config) (snap : Snapshot),
    (∃ n, n ≤ 70 ∧ workOutcome snap (workAfter cfg snap n) = some (commandRun cfg snap).result) ∧
    (∀ n r, workOutcome snap (workAfter cfg snap n) = some r → r = (commandRun cfg snap).result)

/-! The register window. -/

/-- R63: word j of a vector register holds bits 32j to 32j + 31 of the vector, the first in bit 31; KSN's word 2 has only
its upper half, the lower half reads 0 and ignores writes. -/
def Obligations.VectorWordsHoldTheirBits : Prop :=
  (∀ (s : State) (k : Nat), k < 32 →
    (∀ j : Fin 4, (readReg s (.kin j)).getLsbD (31 - k) = bitAt s.kin (32 * j.val + k)) ∧
    (∀ j : Fin 2, (readReg s (.din j)).getLsbD (31 - k) = bitAt s.din (32 * j.val + k)) ∧
    (∀ j : Fin 4, (readReg s (.kout j)).getLsbD (31 - k) = bitAt s.kout (32 * j.val + k)) ∧
    (∀ j : Fin 3, (readReg s (.ksn j)).getLsbD (31 - k) =
      (if 32 * j.val + k < 80 then bitAt s.ksn (32 * j.val + k) else false))) ∧
  (∀ (s : State) (w : Word) (i : Nat),
    (∀ j : Fin 4, i < 128 → bitAt (writeReg s (.bdk j) w).bdk i =
      (if i / 32 = j.val then w.getLsbD (31 - i % 32) else bitAt s.bdk i)) ∧
    (∀ j : Fin 4, i < 128 → bitAt (writeReg s (.kin j) w).kin i =
      (if i / 32 = j.val then w.getLsbD (31 - i % 32) else bitAt s.kin i)) ∧
    (∀ j : Fin 2, i < 64 → bitAt (writeReg s (.din j) w).din i =
      (if i / 32 = j.val then w.getLsbD (31 - i % 32) else bitAt s.din i)) ∧
    (∀ j : Fin 3, i < 80 → bitAt (writeReg s (.ksn j) w).ksn i =
      (if i / 32 = j.val then w.getLsbD (31 - i % 32) else bitAt s.ksn i))) ∧
  (∀ s : State, (readReg s (.kin 0)).toNat = (slice s.kin 0 32).toNat ∧ (readReg s (.din 0)).toNat = (slice s.din 0 32).toNat ∧
    (readReg s (.ksn 0)).toNat = (slice s.ksn 0 32).toNat ∧ (readReg s (.kout 0)).toNat = (slice s.kout 0 32).toNat) ∧
  (∀ s : State, s.ksn = 0xFFFF9876543210E00001 →
    readReg s (.ksn 0) = 0xFFFF9876 ∧ readReg s (.ksn 1) = 0x543210E0 ∧ readReg s (.ksn 2) = 0x00010000)

/-- R65: what a write to each word keeps and what a read of it returns. -/
def Obligations.EachWordHasItsAccessRights : Prop :=
  ∀ (s : State) (w : Word),
    (∀ j, writeReg s (.kout j) w = s ∧ busWriteReply (regOffset (.kout j)) = .done) ∧
    (∀ j, readReg s (.bdk j) = 0x00000000) ∧
    ((readReg s .status).getLsbD 3 = false ∧ (∀ b, 13 ≤ b → (readReg s .status).getLsbD b = false) ∧
      (∀ b, 1 ≤ b → (readReg s .ctrl).getLsbD b = false) ∧ (∀ b, b < 16 → (readReg s (.ksn 2)).getLsbD b = false)) ∧
    (readReg (writeReg s .len w) .len = w ∧
      readReg (writeReg s (.ksn 0) w) (.ksn 0) = w ∧ readReg (writeReg s (.ksn 1) w) (.ksn 1) = w ∧
      readReg (writeReg s (.ksn 2) w) (.ksn 2) = w &&& 0xFFFF0000 ∧
      (∀ j, readReg (writeReg s (.kin j) w) (.kin j) = w) ∧ (∀ j, readReg (writeReg s (.din j) w) (.din j) = w)) ∧
    (readReg (writeReg s .ctrl w) .ctrl = w &&& 0x00000001 ∧ writeReg s .ctrl w = { s with ie := w.getLsbD 0 }) ∧
    writeReg s .status w =
      { s with done := if w.getLsbD 1 then false else s.done, ovr := if w.getLsbD 2 then false else s.ovr }

/-- R29, R30: where the fields stand in the words STATUS and CTRL; CMD reads as the last accepted word (R28) and LEN as
the declared lengths (R31). -/
def Obligations.StatusShowsItsFields : Prop :=
  ∀ s : State,
    (busRead s 0x00 = .data s.cmd ∧ readReg s .cmd = s.cmd ∧ busRead s 0x0C = .data s.len) ∧
    (busRead s 0x04 = .data (statusWord s) ∧ busRead s 0x08 = .data (ctrlWord s)) ∧
    (statusWord s).toNat =
      s.busy.toNat + 2 * s.done.toNat + 4 * s.ovr.toNat + 16 * s.err.toNat + 256 * s.rounds.toNat ∧
    (ctrlWord s).toNat = s.ie.toNat

/-- R66, R272: an access that is not 32 bits wide, not at a multiple of 4, or at a reserved offset is a bus error: no
state changes and a read returns no value. Every other access of the window is served. That offsets from 0x80 on, past the
window, are bus errors too is read from R73 (log 10). -/
def Obligations.BusErrorsChangeNothing : Prop :=
  ∀ (s : State) (off width : Nat) (kind : AccessKind),
    (width ≠ 32 ∨ off % 4 ≠ 0 ∨ off = 0x2C ∨ off = 0x48 ∨ off = 0x4C ∨ 0x60 ≤ off →
      performAccess s { addr := s.cfg.base + off, width := width, kind := kind } = { s with replies := .busError :: s.replies }) ∧
    (width = 32 → off % 4 = 0 → off ≠ 0x2C → off ≠ 0x48 → off ≠ 0x4C → off < 0x60 →
      (performAccess s { addr := s.cfg.base + off, width := width, kind := kind }).replies.head? ≠ some .busError)

/-- R61, R62: the register window's map, and what a 32-bit access of the window does: it is the BusRead or BusWrite of its
offset, and hands back what that gives (the list of replies is the model's, log 12). An access below P_BASE is a bus error
(log 10). -/
def Obligations.TheWindowHasItsMap : Prop :=
  (∀ off r, regAt off = some r ↔
    (off, r) ∈ [(0x00, RegWord.cmd), (0x04, .status), (0x08, .ctrl), (0x0C, .len),
      (0x10, .bdk 0), (0x14, .bdk 1), (0x18, .bdk 2), (0x1C, .bdk 3), (0x20, .ksn 0), (0x24, .ksn 1), (0x28, .ksn 2),
      (0x30, .kin 0), (0x34, .kin 1), (0x38, .kin 2), (0x3C, .kin 3), (0x40, .din 0), (0x44, .din 1),
      (0x50, .kout 0), (0x54, .kout 1), (0x58, .kout 2), (0x5C, .kout 3)]) ∧
  (∀ (s : State) (off : Nat) (r : RegWord) (w : Word), regAt off = some r →
    busRead s off = .data (readReg s r) ∧ busWrite s off w = writeReg s r w ∧ busWriteReply off = .done) ∧
  (∀ (s : State) (off : Nat),
    performAccess s { addr := s.cfg.base + off, width := 32, kind := .read } = giveReply s (busRead s off) ∧
    ∀ w : Word, performAccess s { addr := s.cfg.base + off, width := 32, kind := .write w } =
      giveReply (busWrite s off w) (busWriteReply off)) ∧
  (∀ (s : State) (a : Access), a.addr < s.cfg.base → performAccess s a = { s with replies := .busError :: s.replies }) ∧
  (∀ (s : State) (r : Reply), giveReply s r = { s with replies := r :: s.replies })

/-- R67: no read has a side effect; a write to CMD accepts or drops a command, a write to STATUS clears bits; a write to
any other word only stores the value: every other word reads as before, the other state is unchanged, and writing the
value twice is writing it once. -/
def Obligations.ReadsAndWritesHaveNoOtherEffect : Prop :=
  (∀ (s : State) (addr width : Nat), ∃ r,
    performAccess s { addr := addr, width := width, kind := .read } = { s with replies := r :: s.replies }) ∧
  (∀ (s : State) (r : RegWord) (w : Word), r ≠ .cmd → r ≠ .status →
    writeReg (writeReg s r w) r w = writeReg s r w ∧
    (∀ r', r' ≠ r → readReg (writeReg s r w) r' = readReg s r') ∧
    (writeReg s r w).seq = s.seq ∧ (writeReg s r w).snap = s.snap ∧ (writeReg s r w).work = s.work ∧
    (writeReg s r w).cfg = s.cfg ∧ (writeReg s r w).host = s.host ∧ (writeReg s r w).turns = s.turns ∧
    (writeReg s r w).replies = s.replies ∧ ((∀ j, r ≠ .bdk j) → (writeReg s r w).bdk = s.bdk)) ∧
  (∀ (s : State) (w : Word), writeReg s .status w =
    { s with done := s.done && !w.getLsbD 1, ovr := s.ovr && !w.getLsbD 2 }) ∧
  (∀ (s : State) (w : Word), (s.seq = .idle → (writeReg s .cmd w).cmd = w ∧ (writeReg s .cmd w).seq = .busy) ∧
    (s.seq = .busy → writeReg s .cmd w = { s with ovr := true }))

/-- R23: no host read depends on the BDK, and a read of a BDK word returns 0. -/
def Obligations.TheBdkIsNeverRead : Prop :=
  ∀ (s : State) (b : Key) (r : RegWord), readReg { s with bdk := b } r = readReg s r ∧ (∀ j, readReg s (.bdk j) = 0)

/-- R270: irq is CTRL.IE AND STATUS.DONE; every completion raises it while IE = 1, and a write of 1 to STATUS bit 1, the
next accepted command, or IE written 0 clears it. -/
def Obligations.InterruptIsEnableAndDone : Prop :=
  ∀ s : State, irq s = (s.ie && s.done) ∧
    (s.seq = .busy → s.ie = true → ∃ t, completionTurn s = .next t ∧ irq t = true) ∧
    (∀ w : Word, w.getLsbD 1 = true → irq (busWrite s 0x04 w) = false) ∧
    (∀ w : Word, s.seq = .idle → irq (busWrite s 0x00 w) = false) ∧
    (∀ w : Word, w.getLsbD 0 = false → irq (busWrite s 0x08 w) = false) ∧
    (∀ w : Word, s.seq = .busy → irq (busWrite s 0x00 w) = irq s)

/-! The command words. -/

/-- R83: the 16 legal words and the commands they are; every other word is illegal. -/
def Obligations.SixteenWordsAreLegal : Prop :=
  ∀ (w : Word) (i : Instr), decode w = .ok i ↔
    (w, i) ∈ [((0x00000001 : Word), Instr.advance), (0x00000002, .deriveIpek), (0x00000003, .deriveSession),
      (0x00000004, .applyMask .pinRequest), (0x00000014, .applyMask .pinResponse),
      (0x00000024, .applyMask .macRequest), (0x00000034, .applyMask .macResponse),
      (0x00000044, .applyMask .dataRequest), (0x00000054, .applyMask .dataResponse),
      (0x00000005, .computeKey .pinRequest), (0x00000015, .computeKey .pinResponse),
      (0x00000025, .computeKey .macRequest), (0x00000035, .computeKey .macResponse),
      (0x00000045, .computeKey .dataRequest), (0x00000055, .computeKey .dataResponse),
      (0x00000006, .computeDataKeyVariant)]

/-- Decoding and encoding agree in both directions: a word decodes to a command exactly when it is that command's
encoding. -/
def Obligations.DecodeAndEncodeAgree : Prop :=
  ∀ (w : Word) (i : Instr), decode w = .ok i ↔ w = encode i

/-- R86: a word is illegal exactly when one of the four conditions holds, and an accepted illegal word completes with
IllegalCommand, computes nothing and makes no cipher call. -/
def Obligations.FourConditionsMakeAWordIllegal : Prop :=
  (∀ w : Word, (∃ e, decode w = .error e) ↔
    (((w.extractLsb' 0 4).toNat = 0 ∨ 7 ≤ (w.extractLsb' 0 4).toNat) ∨
      (w.extractLsb' 7 25).toNat ≠ 0 ∨
      (((w.extractLsb' 0 4).toNat = 4 ∨ (w.extractLsb' 0 4).toNat = 5) ∧ 6 ≤ (w.extractLsb' 4 3).toNat) ∨
      (((w.extractLsb' 0 4).toNat = 1 ∨ (w.extractLsb' 0 4).toNat = 2 ∨ (w.extractLsb' 0 4).toNat = 3 ∨
        (w.extractLsb' 0 4).toNat = 6) ∧ (w.extractLsb' 4 3).toNat ≠ 0))) ∧
  (∀ (s : State) (e : Illegal), s.seq = .busy → decode s.snap.cmd = .error e →
    ∃ t, completionTurn s = .next t ∧ FailedWith t 5 ∧ CommandFrame s t ∧ (commandRun s.cfg s.snap).calls = [])

/-- Some words written out bit by bit from R81 decode to the commands they stand for. -/
def Obligations.WordsFromTheEncodingDecode : Prop :=
  decode 0b00000000000000000000000000000001 = .ok .advance ∧
  decode 0b00000000000000000000000000000010 = .ok .deriveIpek ∧
  decode 0b00000000000000000000000000000011 = .ok .deriveSession ∧
  decode 0b00000000000000000000000000110100 = .ok (.applyMask .macResponse) ∧
  decode 0b00000000000000000000000001000101 = .ok (.computeKey .dataRequest) ∧
  decode 0b00000000000000000000000000000110 = .ok .computeDataKeyVariant ∧
  decode 0b00000000000000000000000001100100 = .error .undefinedUsage ∧
  decode 0b10000000000000000000000000000101 = .error .reservedBits

/-! The commands. -/

/-- R140, R141: ADVANCE completes with the round on KIN and DIN: r2 under the unmasked key first, then r1 under the
masked key, r1 on the left; a failing call ends it with CipherFailure, and after a failing first call the second is not
made. -/
def Obligations.AdvanceCompletesWithTheRound : Prop :=
  decode 0x00000001 = .ok .advance ∧
  (∀ (s : State) (x y : Block),
    cipherSenc s.cfg.cipher (slice s.snap.kin 0 64) (s.snap.din ^^^ slice s.snap.kin 64 128) = some x →
    cipherSenc s.cfg.cipher (slice (s.snap.kin ^^^ 0xC0C0C0C000000000C0C0C0C000000000) 0 64)
      (s.snap.din ^^^ slice (s.snap.kin ^^^ 0xC0C0C0C000000000C0C0C0C000000000) 64 128) = some y →
    ∃ t, exec .advance s = .next t ∧ CommandFrame s t ∧
      CompletedWith t
        ((y ^^^ slice (s.snap.kin ^^^ 0xC0C0C0C000000000C0C0C0C000000000) 64 128) ++ (x ^^^ slice s.snap.kin 64 128)) 1) ∧
  (∀ s : State,
    cipherSenc s.cfg.cipher (leftHalf s.snap.kin) (s.snap.din ^^^ rightHalf s.snap.kin) = none ∨
    cipherSenc s.cfg.cipher (leftHalf (s.snap.kin ^^^ krm)) (s.snap.din ^^^ rightHalf (s.snap.kin ^^^ krm)) = none →
    ∃ t, exec .advance s = .next t ∧ CommandFrame s t ∧ FailedWith t 4) ∧
  (∀ (c : Cipher) (key : Key) (data : Block),
    (advance c key data).calls = .senc (leftHalf key) (data ^^^ rightHalf key) ::
      (if cipherSenc c (leftHalf key) (data ^^^ rightHalf key) = none then []
        else [.senc (leftHalf (key ^^^ krm)) (data ^^^ rightHalf (key ^^^ krm))])) ∧
  (∀ s : State, s.cfg.cipher = .des → s.snap.kin = 0x6AC292FAA1315B4D858AB3A3D7D5933A →
    s.snap.din = 0x9876543210E00001 →
    ∃ t, exec .advance s = .next t ∧ CompletedWith t 0x042666B49184CFA368DE9628D0397BC9 1)

/-- R144: a key masked with KRM gives the same round with its two halves exchanged. -/
def Obligations.TheMaskSwapsTheHalves : Prop :=
  (∀ (c : Cipher) (key : Key) (d : Block) (r r' : Key), (advance c key d).result = .ok r →
    (advance c (key ^^^ krm) d).result = .ok r' → leftHalf r' = rightHalf r ∧ rightHalf r' = leftHalf r) ∧
  (∀ (c : Cipher) (key : Key) (d : Block),
    (∃ r, (advance c key d).result = .ok r) ↔ (∃ r, (advance c (key ^^^ krm) d).result = .ok r)) ∧
  (advance .des 0 0).result = .ok 0x47FAD57A38CC09E98CA64DE9C1B123A7 ∧
  (advance .des krm 0).result = .ok 0x8CA64DE9C1B123A747FAD57A38CC09E9

/-- R160, R161: DERIVE_IPEK completes with TENC of the counter-cleared block under the BDK, then under BDK ⊕ KRM; a
failing call ends it with CipherFailure, and after a failing first call the second is not made. -/
def Obligations.DeriveIpekCompletesWithTheIpek : Prop :=
  decode 0x00000002 = .ok .deriveIpek ∧
  (∀ (s : State) (left right : Block),
    cipherTenc s.cfg.cipher s.snap.bdk (slice (clearRange s.snap.ksn 59 80) 0 64) = some left →
    cipherTenc s.cfg.cipher (s.snap.bdk ^^^ 0xC0C0C0C000000000C0C0C0C000000000)
      (slice (clearRange s.snap.ksn 59 80) 0 64) = some right →
    ∃ t, exec .deriveIpek s = .next t ∧ CommandFrame s t ∧ CompletedWith t (left ++ right) 0) ∧
  (∀ s : State,
    cipherTenc s.cfg.cipher s.snap.bdk (ipekBlock s.snap.ksn) = none ∨
    cipherTenc s.cfg.cipher (s.snap.bdk ^^^ krm) (ipekBlock s.snap.ksn) = none →
    ∃ t, exec .deriveIpek s = .next t ∧ CommandFrame s t ∧ FailedWith t 4) ∧
  (∀ (c : Cipher) (bdk : Key) (ksn : Ksn),
    (deriveIpek c bdk ksn).calls = .tenc bdk (ipekBlock ksn) ::
      (if cipherTenc c bdk (ipekBlock ksn) = none then [] else [.tenc (bdk ^^^ krm) (ipekBlock ksn)])) ∧
  (∀ s : State, s.cfg.cipher = .des → s.snap.bdk = 0x0123456789ABCDEFFEDCBA9876543210 →
    s.snap.ksn = 0xFFFF9876543210E00001 →
    ∃ t, exec .deriveIpek s = .next t ∧ CompletedWith t 0x6AC292FAA1315B4D858AB3A3D7D5933A 0)

/-- R162, R163: the IPEK depends on the BDK and the static prefix only, and on all of the prefix: the block it is made from
is KSN bits 0 to 58, then five zeros. -/
def Obligations.TheIpekIgnoresTheCounter : Prop :=
  (∀ (c : Cipher) (bdk : Key) (ksn ksn' : Ksn), AgreeOn (· < 59) ksn ksn' →
    deriveIpek c bdk ksn = deriveIpek c bdk ksn') ∧
  (∀ (ksn : Ksn) (j : Nat), j < 64 → bitAt (ipekBlock ksn) j = (decide (j < 59) && bitAt ksn j)) ∧
  (∀ ksn ∈ [(0xFFFF9876543210E00001 : Ksn), 0xFFFF9876543210E00000, 0xFFFF9876543210FFFFFF],
    (deriveIpek .des 0x0123456789ABCDEFFEDCBA9876543210 ksn).result = .ok 0x6AC292FAA1315B4D858AB3A3D7D5933A) ∧
  (deriveIpek .des 0x0123456789ABCDEFFEDCBA9876543210 0x00009876543210E00001).result =
    .ok 0xEAF17150F4F1E5E507A9C4F6FBD5CC21

/-- R181: DERIVE_SESSION completes with the transaction key and the number of rounds, or with CipherFailure. -/
def Obligations.DeriveSessionCompletesWithTheSessionKey : Prop :=
  decode 0x00000003 = .ok .deriveSession ∧
  (∀ (s : State) (k : Key) (n : Nat), (deriveSession s.cfg.cipher s.snap.kin s.snap.ksn).result = .ok (k, n) →
    ∃ t, exec .deriveSession s = .next t ∧ CommandFrame s t ∧ CompletedWith t k n) ∧
  (∀ (s : State) (e : EngineError), (deriveSession s.cfg.cipher s.snap.kin s.snap.ksn).result = .error e →
    ∃ t, exec .deriveSession s = .next t ∧ CommandFrame s t ∧ FailedWith t 4) ∧
  (∀ s : State, s.cfg.cipher = .des → s.snap.kin = 0x6AC292FAA1315B4D858AB3A3D7D5933A →
    s.snap.ksn = 0xFFFF9876543210E00003 →
    ∃ t, exec .deriveSession s = .next t ∧ CompletedWith t 0x0DF3D9422ACA56E547676D07AD6BADFA 2)

/-- R183: exactly one round for each set bit of the counter, 0 to 21 of them; with the counter 0 the result is the IPEK
itself, with the counter all ones there are 21 rounds. -/
def Obligations.OneRoundForEachSetCounterBit : Prop :=
  ∀ (c : Cipher) (ipek : Key) (ksn : Ksn),
    (∀ k n, (deriveSession c ipek ksn).result = .ok (k, n) →
      n = popcount (counterOf ksn) ∧ n ≤ 21 ∧ (deriveSession c ipek ksn).calls.length = 2 * n) ∧
    (counterOf ksn = 0 → deriveSession c ipek ksn = { calls := [], result := .ok (ipek, 0) }) ∧
    (∀ k n, counterOf ksn = BitVec.allOnes 21 → (deriveSession c ipek ksn).result = .ok (k, n) → n = 21)

/-- R180, R184, R186: the session key is the last of a chain of rounds, one for each set counter bit in ascending
order, each on the key before it and on the window of R184, which is written here without the iterator. -/
def Obligations.TheSessionKeyIsTheChainOfRounds : Prop :=
  ∀ (c : Cipher) (ipek : Key) (ksn : Ksn),
    deriveSession c ipek ksn =
      (advanceChain c ipek (((List.range' 59 21).filter (bitAt ksn)).map (windowAt ksn))).andThen fun k =>
        Run.pure (k, popcount (counterOf ksn))

/-- R185: the iterator never reads KSN bits 0 to 15. -/
def Obligations.TheSessionKeyIgnoresTheFirstBits : Prop :=
  ∀ (c : Cipher) (ipek : Key) (ksn ksn' : Ksn), AgreeOn (16 ≤ ·) ksn ksn' →
    deriveSession c ipek ksn = deriveSession c ipek ksn'

/-- R200, R201: APPLY_MASK completes with KIN ⊕ USAGE_MASK[u], no round and no cipher call, whatever the lengths say; with
a usage of 6 or 7 the word is illegal and completes with IllegalCommand. -/
def Obligations.ApplyMaskCompletesWithTheMaskedKey : Prop :=
  (∀ u : Usage, decode ((0 : BitVec 25) ++ usageCode u ++ (4 : BitVec 4)) = .ok (.applyMask u)) ∧
  (∀ (s : State) (u : BitVec 3), 6 ≤ u.toNat → s.seq = .busy → s.snap.cmd = (0 : BitVec 25) ++ u ++ (4 : BitVec 4) →
    ∃ t, completionTurn s = .next t ∧ CommandFrame s t ∧ FailedWith t 5) ∧
  (∀ (s : State) (u : Usage), ∃ t, exec (.applyMask u) s = .next t ∧ CommandFrame s t ∧
    CompletedWith t (s.snap.kin ^^^
      (match u with
        | .pinRequest => s.cfg.masks.pinRequest
        | .pinResponse => s.cfg.masks.pinResponse
        | .macRequest => s.cfg.masks.macRequest
        | .macResponse => s.cfg.masks.macResponse
        | .dataRequest => s.cfg.masks.dataRequest
        | .dataResponse => s.cfg.masks.dataResponse)) 0 ∧
    (runOf (.applyMask u) s.cfg s.snap).calls = []) ∧
  (∀ s : State, s.snap.kin = 0x042666B49184CFA368DE9628D0397BC9 →
    s.cfg.masks.pinRequest = 0x00000000000000FF00000000000000FF →
    ∃ t, exec (.applyMask .pinRequest) s = .next t ∧ CompletedWith t 0x042666B49184CF5C68DE9628D0397B36 0)

/-- R202: APPLY_MASK u run again on its own result gives back the key it started from. -/
def Obligations.ApplyMaskTwiceGivesTheKeyBack : Prop :=
  (∀ (m : UsageMasks) (k : Key) (u : Usage), applyMask m (applyMask m k u) u = k) ∧
  (∀ (s t : State) (u : Usage), exec (.applyMask u) s = .next t →
    ∃ t', exec (.applyMask u) { s with snap := { s.snap with kin := t.kout } } = .next t' ∧ t'.kout = s.snap.kin)

/-- R205, R262: the length check of COMPUTE_KEY and COMPUTE_DATA_KEY_VARIANT, the key first, before any cipher call; with
accepted lengths LEN has no effect. -/
def Obligations.TwoCommandsCheckTheLengths : Prop :=
  ∀ (s : State) (i : Instr), i = .computeDataKeyVariant ∨ (∃ u, i = .computeKey u) →
    ((s.snap.len.extractLsb' 0 16).toNat ≠ 128 →
      ∃ t, exec i s = .next t ∧ CommandFrame s t ∧ FailedWith t 1 ∧ (runOf i s.cfg s.snap).calls = []) ∧
    ((s.snap.len.extractLsb' 0 16).toNat = 128 → (s.snap.len.extractLsb' 16 16).toNat < 80 →
      ∃ t, exec i s = .next t ∧ CommandFrame s t ∧ FailedWith t 2 ∧ (runOf i s.cfg s.snap).calls = []) ∧
    ((s.snap.len.extractLsb' 0 16).toNat = 128 → 80 < (s.snap.len.extractLsb' 16 16).toNat →
      s.cfg.ksnOverlength = .reject →
      ∃ t, exec i s = .next t ∧ CommandFrame s t ∧ FailedWith t 2 ∧ (runOf i s.cfg s.snap).calls = []) ∧
    (LengthsAccepted s.cfg.ksnOverlength s.snap.len → ∀ len', LengthsAccepted s.cfg.ksnOverlength len' →
      exec i s = exec i { s with snap := { s.snap with len := len' } })

/-- R206, R207: COMPUTE_KEY, with accepted lengths, completes with the session key of its own IPEK under the usage mask,
or with CipherFailure where either derivation fails; with other lengths it ends with the length error, and with a usage
of 6 or 7 with IllegalCommand. -/
def Obligations.ComputeKeyCompletesWithTheMaskedKey : Prop :=
  (∀ u : Usage, decode ((0 : BitVec 25) ++ usageCode u ++ (5 : BitVec 4)) = .ok (.computeKey u)) ∧
  (∀ (s : State) (u : BitVec 3), 6 ≤ u.toNat → s.seq = .busy → s.snap.cmd = (0 : BitVec 25) ++ u ++ (5 : BitVec 4) →
    ∃ t, completionTurn s = .next t ∧ CommandFrame s t ∧ FailedWith t 5) ∧
  (∀ (s : State) (u : Usage), ¬ LengthsAccepted s.cfg.ksnOverlength s.snap.len →
    ∃ t, exec (.computeKey u) s = .next t ∧ CommandFrame s t ∧
      FailedWith t (if (s.snap.len.extractLsb' 0 16).toNat ≠ 128 then 1 else 2)) ∧
  (∀ (s : State) (u : Usage) (ipek k : Key) (n : Nat), LengthsAccepted s.cfg.ksnOverlength s.snap.len →
    (deriveIpek s.cfg.cipher s.snap.bdk s.snap.ksn).result = .ok ipek →
    (deriveSession s.cfg.cipher ipek s.snap.ksn).result = .ok (k, n) →
    ∃ t, exec (.computeKey u) s = .next t ∧ CommandFrame s t ∧ CompletedWith t (k ^^^ usageMask s.cfg.masks u) n) ∧
  (∀ (s : State) (u : Usage) (e : EngineError), LengthsAccepted s.cfg.ksnOverlength s.snap.len →
    (deriveIpek s.cfg.cipher s.snap.bdk s.snap.ksn).result = .error e ∨
      (∃ ipek, (deriveIpek s.cfg.cipher s.snap.bdk s.snap.ksn).result = .ok ipek ∧
        (deriveSession s.cfg.cipher ipek s.snap.ksn).result = .error e) →
    ∃ t, exec (.computeKey u) s = .next t ∧ CommandFrame s t ∧ FailedWith t 4) ∧
  (∀ s : State, s.cfg.cipher = .des → s.cfg.masks.pinRequest = 0x00000000000000FF00000000000000FF →
    s.snap.len = 0x00500080 → s.snap.bdk = 0x0123456789ABCDEFFEDCBA9876543210 → s.snap.ksn = 0xFFFF9876543210E00001 →
    ∃ t, exec (.computeKey .pinRequest) s = .next t ∧ CompletedWith t 0x042666B49184CF5C68DE9628D0397B36 1)

/-- R208: COMPUTE_KEY's KOUT and ROUNDS are those of DERIVE_IPEK, DERIVE_SESSION and APPLY_MASK run one after another, each
on the KOUT before it. -/
def Obligations.ComputeKeyIsTheSequenceOfThree : Prop :=
  ∀ (s t : State) (u : Usage), LengthsAccepted s.cfg.ksnOverlength s.snap.len →
    exec (.computeKey u) s = .next t → t.err = 0 →
    ∃ t1 t2 t3, exec .deriveIpek s = .next t1 ∧
      exec .deriveSession { s with snap := { s.snap with kin := t1.kout } } = .next t2 ∧
      exec (.applyMask u) { s with snap := { s.snap with kin := t2.kout } } = .next t3 ∧
      t1.err = 0 ∧ t2.err = 0 ∧ t3.err = 0 ∧ t.kout = t3.kout ∧ t.rounds = t2.rounds

/-- R210, R211: COMPUTE_DATA_KEY_VARIANT, with accepted lengths, completes with the two halves of the DATA_REQUEST key,
each encrypted under that whole key, or with CipherFailure; after a failing part1 the part2 call is not made. With other
lengths it ends with the length error, and with USAGE or RES not 0 with IllegalCommand. -/
def Obligations.ComputeDataKeyVariantCompletesWithTheTwoParts : Prop :=
  decode 0x00000006 = .ok .computeDataKeyVariant ∧
  (∀ s : State, s.seq = .busy → s.snap.cmd.extractLsb' 0 4 = 6 → s.snap.cmd ≠ 0x00000006 →
    ∃ t, completionTurn s = .next t ∧ CommandFrame s t ∧ FailedWith t 5) ∧
  (∀ s : State, ¬ LengthsAccepted s.cfg.ksnOverlength s.snap.len →
    ∃ t, exec .computeDataKeyVariant s = .next t ∧ CommandFrame s t ∧
      FailedWith t (if (s.snap.len.extractLsb' 0 16).toNat ≠ 128 then 1 else 2)) ∧
  (∀ (s : State) (dk : Key) (n : Nat) (part1 part2 : Block), LengthsAccepted s.cfg.ksnOverlength s.snap.len →
    (computeKey s.cfg s.snap.bdk s.snap.ksn .dataRequest).result = .ok (dk, n) →
    cipherTenc s.cfg.cipher dk (slice dk 0 64) = some part1 → cipherTenc s.cfg.cipher dk (slice dk 64 128) = some part2 →
    ∃ t, exec .computeDataKeyVariant s = .next t ∧ CommandFrame s t ∧ CompletedWith t (part1 ++ part2) n) ∧
  (∀ (s : State), LengthsAccepted s.cfg.ksnOverlength s.snap.len →
    (∃ e, (computeKey s.cfg s.snap.bdk s.snap.ksn .dataRequest).result = .error e) ∨
    (∃ dk n, (computeKey s.cfg s.snap.bdk s.snap.ksn .dataRequest).result = .ok (dk, n) ∧
      (cipherTenc s.cfg.cipher dk (leftHalf dk) = none ∨ cipherTenc s.cfg.cipher dk (rightHalf dk) = none)) →
    ∃ t, exec .computeDataKeyVariant s = .next t ∧ CommandFrame s t ∧ FailedWith t 4) ∧
  (∀ (c : Cipher) (dk : Key), (selfEncrypt c dk).calls = .tenc dk (leftHalf dk) ::
    (if cipherTenc c dk (leftHalf dk) = none then [] else [.tenc dk (rightHalf dk)])) ∧
  (∀ s : State, s.cfg.cipher = .des → s.cfg.masks.dataRequest = 0x0000000000FF00000000000000FF0000 →
    s.snap.len = 0x00500080 → s.snap.bdk = 0x0123456789ABCDEFFEDCBA9876543210 → s.snap.ksn = 0xFFFF9876543210E00001 →
    ∃ t, exec .computeDataKeyVariant s = .next t ∧ CompletedWith t 0x448D3F076D8304036A55A3D7E0055A78 1)

/-! Errors, rounds and cipher calls. -/

/-- R38: ROUNDS at completion, by command: 1, 0 or the number of ones in the counter; 0 on any error; never over 21. -/
def Obligations.RoundsAreTheCommandsRounds : Prop :=
  ∀ (i : Instr) (s : State), ∃ t, exec i s = .next t ∧ t.rounds.toNat ≤ 21 ∧
    (t.err ≠ 0 → t.rounds = 0) ∧
    (t.err = 0 → t.rounds.toNat =
      (match i with
        | .advance => 1
        | .deriveIpek => 0
        | .deriveSession => popcount (counterOf s.snap.ksn)
        | .applyMask _ => 0
        | .computeKey _ => popcount (counterOf s.snap.ksn)
        | .computeDataKeyVariant => popcount (counterOf s.snap.ksn)))

/-- R130: the kinds and number of a command's cipher calls, in the order made; at most 46 in any command. -/
def Obligations.EachCommandMakesItsCipherCalls : Prop :=
  ∀ (cfg : Config) (snap : Snapshot) (i : Instr),
    (runOf i cfg snap).calls.length ≤ 46 ∧
    (∀ kn, (runOf i cfg snap).result = .ok kn → (runOf i cfg snap).calls.map isTenc =
      (match i with
        | .advance => [false, false]
        | .deriveIpek => [true, true]
        | .deriveSession => List.replicate (2 * popcount (counterOf snap.ksn)) false
        | .applyMask _ => []
        | .computeKey _ => [true, true] ++ List.replicate (2 * popcount (counterOf snap.ksn)) false
        | .computeDataKeyVariant =>
          [true, true] ++ List.replicate (2 * popcount (counterOf snap.ksn)) false ++ [true, true]))

/-- R128: a command ends with CipherFailure exactly when its last call failed; no earlier call failed and no later one is
made; the default cipher never fails. -/
def Obligations.AFailingCallEndsTheCommand : Prop :=
  (∀ (cfg : Config) (snap : Snapshot), (commandRun cfg snap).result = .error .cipherFailure ↔
    ∃ before last, (commandRun cfg snap).calls = before ++ [last] ∧ callAnswer cfg.cipher last = none ∧
      ∀ call ∈ before, callAnswer cfg.cipher call ≠ none) ∧
  (∀ (s : State), s.seq = .busy → (commandRun s.cfg s.snap).result = .error .cipherFailure →
    ∃ t, completionTurn s = .next t ∧ FailedWith t 4) ∧
  (∀ (cfg : Config) (snap : Snapshot), cfg.cipher = .des → (commandRun cfg snap).result ≠ .error .cipherFailure)

/-- R264: no command ends with LengthMismatch. Of R263: APPLY_MASK never ends with CipherFailure, and DERIVE_SESSION only when
the counter is not 0. -/
def Obligations.LengthMismatchNeverHappens : Prop :=
  ∀ (cfg : Config) (snap : Snapshot),
    (commandRun cfg snap).result ≠ .error .lengthMismatch ∧
    (∀ u, (runOf (.applyMask u) cfg snap).result ≠ .error .cipherFailure) ∧
    ((runOf .deriveSession cfg snap).result = .error .cipherFailure → counterOf snap.ksn ≠ 0)

/-- R267: where more than one error applies, ERR is the first of IllegalCommand, InvalidKeyLength, InvalidKsnLength,
CipherFailure, whatever the later ones would say. -/
def Obligations.TheFirstErrorWins : Prop :=
  ∀ s : State, s.seq = .busy → ∃ t, completionTurn s = .next t ∧
    ((∃ e, decode s.snap.cmd = .error e) → t.err = 5) ∧
    (∀ i, decode s.snap.cmd = .ok i → i = .computeDataKeyVariant ∨ (∃ u, i = .computeKey u) →
      (t.err = 1 ↔ (s.snap.len.extractLsb' 0 16).toNat ≠ 128) ∧
      (t.err = 2 ↔ (s.snap.len.extractLsb' 0 16).toNat = 128 ∧
        ((s.snap.len.extractLsb' 16 16).toNat < 80 ∨
          (80 < (s.snap.len.extractLsb' 16 16).toNat ∧ s.cfg.ksnOverlength = .reject))) ∧
      (t.err = 0 ∨ t.err = 4 ↔ LengthsAccepted s.cfg.ksnOverlength s.snap.len)) ∧
    (∀ i, decode s.snap.cmd = .ok i → i = .advance ∨ i = .deriveIpek ∨ i = .deriveSession → t.err = 0 ∨ t.err = 4) ∧
    (∀ u, decode s.snap.cmd = .ok (.applyMask u) → t.err = 0)

/-! Datapath primitives and the default cipher. -/

/-- R122, R123, and of R121 the value: slice, setBit and clearRange, bit by bit from the most significant end. -/
def Obligations.SliceSetAndClearBitByBit : Prop :=
  (∀ (n : Nat) (v : BitVec n) (a b j : Nat), a ≤ b → b ≤ n → j < b - a → bitAt (slice v a b) j = bitAt v (a + j)) ∧
  (∀ (n : Nat) (v : BitVec n) (i j : Nat), i < n → j < n →
    bitAt (setBit v i) j = (if j = i then true else bitAt v j)) ∧
  (∀ (n : Nat) (v : BitVec n) (i : Nat), i < n → bitAt v i = true → setBit v i = v) ∧
  (∀ (n : Nat) (v : BitVec n) (a b j : Nat), a ≤ b → b ≤ n → j < n →
    bitAt (clearRange v a b) j = (if a ≤ j ∧ j < b then false else bitAt v j)) ∧
  slice (0xFFFF9876543210E00000 : Ksn) 0 64 = 0xFFFF9876543210E0 ∧
  setBit (0xFFFF9876543210E00000 : Ksn) 79 = 0xFFFF9876543210E00001 ∧
  clearRange (0xFFFF9876543210FFFFFF : Ksn) 59 80 = 0xFFFF9876543210E00000

/-- R125, R64: toBytes gives bits 8m to 8m + 7 as byte m, most significant first; reading the bytes back gives the
vector; the words of a register in ascending offset give the same byte sequence. -/
def Obligations.BytesArePackedMostSignificantFirst : Prop :=
  (∀ (n : Nat) (v : BitVec n), n % 8 = 0 → (toBytes v).length = n / 8 ∧ ofBytes n (toBytes v) = v ∧
    (∀ m k, m < n / 8 → k < 8 → bitAt ((toBytes v).getD m 0) k = bitAt v (8 * m + k))) ∧
  (∀ v : Key, toBytes v = toBytes (wordAt v 0) ++ toBytes (wordAt v 1) ++ toBytes (wordAt v 2) ++ toBytes (wordAt v 3)) ∧
  toBytes krm = [0xC0, 0xC0, 0xC0, 0xC0, 0, 0, 0, 0, 0xC0, 0xC0, 0xC0, 0xC0, 0, 0, 0, 0]

/-- R230: output bit j of a permutation by a table is input bit T[j] − 1. -/
def Obligations.APermutationTakesItsTablesBits : Prop :=
  ∀ (n : Nat) (t : List Nat) (v : BitVec n) (j p : Nat), t[j]? = some p →
    bitAt (permute t t.length v) j = bitAt v (p - 1)

/-- R245: under the default cipher no call fails, and the least significant bit of every key byte has no effect. -/
def Obligations.TheDefaultCipherIgnoresParity : Prop :=
  (∀ k b, cipherSenc .des k b ≠ none) ∧ (∀ k b, cipherTenc .des k b ≠ none) ∧
  (∀ (k k' b : Block), AgreeOn (· % 8 ≠ 7) k k' → cipherSenc .des k b = cipherSenc .des k' b) ∧
  (∀ (k k' : Key) (b : Block), AgreeOn (· % 8 ≠ 7) k k' → cipherTenc .des k b = cipherTenc .des k' b)

/-- R244: the default TENC encrypts, decrypts and encrypts, K1 the left half; with K1 = K2 it is single DES, and DES
decryption undoes DES encryption (derived from R242 and R244, stated by neither). -/
def Obligations.EqualHalvesGiveSingleDes : Prop :=
  (∀ (k : Key) (b : Block), cipherTenc .des k b =
    some (desEncrypt (slice k 0 64) (desDecrypt (slice k 64 128) (desEncrypt (slice k 0 64) b)))) ∧
  (∀ (k : Key) (b : Block), leftHalf k = rightHalf k → cipherTenc .des k b = cipherSenc .des (leftHalf k) b) ∧
  (∀ k m : Block, desDecrypt k (desEncrypt k m) = m)

/-- R246: the check vectors of the default cipher. -/
def Obligations.TheDefaultCipherMeetsItsCheckVectors : Prop :=
  desEncrypt 0x133457799BBCDFF1 0x0123456789ABCDEF = 0x85E813540F0AB405 ∧
  desDecrypt 0x133457799BBCDFF1 0x85E813540F0AB405 = 0x0123456789ABCDEF ∧
  desEncrypt 0x123556789ABDDEF0 0x0123456789ABCDEF = 0x85E813540F0AB405 ∧
  desEncrypt 0x0000000000000000 0x0000000000000000 = 0x8CA64DE9C1B123A7 ∧
  cipherTenc .des 0x0123456789ABCDEFFEDCBA9876543210 0xFFFF9876543210E0 = some 0x6AC292FAA1315B4D ∧
  cipherTenc .des 0x133457799BBCDFF1133457799BBCDFF1 0x0123456789ABCDEF = some 0x85E813540F0AB405

/-- R5, R129: every pair of functions that may fail is a cipher of the model, so a statement about every build covers
every P_CIPHER. -/
def Obligations.EveryCipherIsATable : Prop :=
  ∀ (f : Block → Block → Option Block) (g : Key → Block → Option Block),
    ∃ c : Cipher, (∀ k b, cipherSenc c k b = f k b) ∧ (∀ k b, cipherTenc c k b = g k b)

/-! The host agent. -/

/-- R89: what each line of a host program does. Names and labels as numbers, the first-label rule, and that a branch not
taken goes on whether or not its label stands in the program are the model's (log 13), the replies too (log 12). -/
def Obligations.HostLinesDoTheirAccess : Prop :=
  (∀ (s : State) (r : RegWord) (w : Word), s.host.program[s.host.pc]? = some (.write r w) →
    hostTurn s = .next { writeReg s r w with
      host := { s.host with pc := s.host.pc + 1 }, replies := .done :: s.replies }) ∧
  (∀ (s : State) (r : RegWord) (name : Nat), s.host.program[s.host.pc]? = some (.read r name) →
    hostTurn s = .next { s with
      host := { s.host with pc := s.host.pc + 1, values := storeValue name (readReg s r) s.host.values },
      replies := .data (readReg s r) :: s.replies }) ∧
  (∀ (s : State) (l : Nat), s.host.program[s.host.pc]? = some (.label l) →
    hostTurn s = .next { s with host := { s.host with pc := s.host.pc + 1 } }) ∧
  (∀ (s : State) (name hi lo v l : Nat) (w : Word), s.host.program[s.host.pc]? = some (.branch name hi lo v l) →
    lo ≤ hi → hi ≤ 31 → lookupValue name s.host.values = some w →
    (w.toNat / 2 ^ lo % 2 ^ (hi + 1 - lo) ≠ v →
      hostTurn s = .next { s with host := { s.host with pc := s.host.pc + 1 } }) ∧
    (∀ pc, w.toNat / 2 ^ lo % 2 ^ (hi + 1 - lo) = v → s.host.program[pc]? = some (.label l) →
      (∀ q, q < pc → s.host.program[q]? ≠ some (.label l)) →
      hostTurn s = .next { s with host := { s.host with pc := pc + 1 } }))

/-- R90: the pseudo-instructions expand to register writes whose words, side by side, are the operand; a program is its
expansions one after another, and the label of each `wait` is fresh: no other line of the program names it (which number it
is is the model's choice, log 13). -/
def Obligations.PseudoInstructionsExpandToTheirWords : Prop :=
  (∀ l i, expand l (.cmd i) = [.write .cmd (encode i)]) ∧
  (∀ (l : Nat) (h : Key), ∃ a b c d : Word, a ++ b ++ c ++ d = h ∧
    expand l (.load128Bdk h) = [.write (.bdk 0) a, .write (.bdk 1) b, .write (.bdk 2) c, .write (.bdk 3) d] ∧
    expand l (.load128Kin h) = [.write (.kin 0) a, .write (.kin 1) b, .write (.kin 2) c, .write (.kin 3) d]) ∧
  (∀ (l : Nat) (h : Ksn), ∃ a b c : Word, a ++ b ++ c = h ++ (0 : BitVec 16) ∧
    expand l (.load80Ksn h) = [.write (.ksn 0) a, .write (.ksn 1) b, .write (.ksn 2) c]) ∧
  (∀ (l : Nat) (h : Block), ∃ a b : Word, a ++ b = h ∧ expand l (.load64Din h) = [.write (.din 0) a, .write (.din 1) b]) ∧
  (∀ l name, expand l (.wait name) = [.label l, .read .status name, .branch name 0 0 1 l]) ∧
  (∀ l k, expand l (.collect k) =
    [.read (.kout 0) k, .read (.kout 1) (k + 1), .read (.kout 2) (k + 2), .read (.kout 3) (k + 3)]) ∧
  (∀ l h, expand l (.line h) = [h]) ∧
  (∀ p : List Pseudo, ∃ ls : List Nat, ls.length = p.length ∧ assemble p = (List.zipWith expand ls p).flatten) ∧
  (∀ (p q : List Pseudo) (name : Nat), ∃ (before after : List HostLine) (l : Nat),
    assemble (p ++ .wait name :: q) = before ++ [.label l, .read .status name, .branch name 0 0 1 l] ++ after ∧
    ∀ line ∈ before ++ after, lineLabel line ≠ some l)

/-! APPLY_MASK and the derivation state. -/

/-- R203: with a zero mask APPLY_MASK u returns KIN; only the constant matters, not the usage's value; BDK and KSN stay, and
the work of APPLY_MASK touches no derivation state: of the working values it writes its mask alone (the stages are the
model's, log 6, and so is that cleared working values are zero, log 7). -/
def Obligations.ApplyMaskTouchesNoDerivationState : Prop :=
  (∀ (s : State) (u : Usage), usageMask s.cfg.masks u = 0 →
    ∃ t, exec (.applyMask u) s = .next t ∧ CommandFrame s t ∧ CompletedWith t s.snap.kin 0) ∧
  (∀ (s : State) (u u' : Usage), usageMask s.cfg.masks u = usageMask s.cfg.masks u' →
    exec (.applyMask u) s = exec (.applyMask u') s) ∧
  (∀ (s : State) (u : Usage), ∃ t, exec (.applyMask u) s = .next t ∧ t.bdk = s.bdk ∧ t.ksn = s.ksn) ∧
  (∀ (cfg : Config) (snap : Snapshot) (u : Usage) (n : Nat), decode snap.cmd = .ok (.applyMask u) →
    ∃ (stage : Stage) (mask : Key), workAfter cfg snap n = { Working.cleared with stage := stage, mask := mask })
end

