-- ==== Sys2Proof/Laws/State.lean ====
section
/-! SUPPORT. One lemma for each field and each record update of the machine, true by rfl: what the update leaves in the
field. Later proofs use these and unfold no update. -/

namespace Sys2Proof.Machine

section accept
variable (s : State) (w : Word)
@[simp] theorem accept_cfg : (accept s w).cfg = s.cfg := rfl
@[simp] theorem accept_cmd : (accept s w).cmd = w := rfl
@[simp] theorem accept_seq : (accept s w).seq = .busy := rfl
@[simp] theorem accept_done : (accept s w).done = false := rfl
@[simp] theorem accept_ovr : (accept s w).ovr = s.ovr := rfl
@[simp] theorem accept_err : (accept s w).err = 0 := rfl
@[simp] theorem accept_rounds : (accept s w).rounds = 0 := rfl
@[simp] theorem accept_ie : (accept s w).ie = s.ie := rfl
@[simp] theorem accept_len : (accept s w).len = s.len := rfl
@[simp] theorem accept_bdk : (accept s w).bdk = s.bdk := rfl
@[simp] theorem accept_ksn : (accept s w).ksn = s.ksn := rfl
@[simp] theorem accept_kin : (accept s w).kin = s.kin := rfl
@[simp] theorem accept_din : (accept s w).din = s.din := rfl
@[simp] theorem accept_kout : (accept s w).kout = s.kout := rfl
@[simp] theorem accept_snap : (accept s w).snap = takeSnapshot s w := rfl
@[simp] theorem accept_work : (accept s w).work = Working.cleared := rfl
@[simp] theorem accept_host : (accept s w).host = s.host := rfl
@[simp] theorem accept_turns : (accept s w).turns = s.turns := rfl
@[simp] theorem accept_replies : (accept s w).replies = s.replies := rfl
end accept

section dropCommand
variable (s : State)
@[simp] theorem dropCommand_cfg : (dropCommand s).cfg = s.cfg := rfl
@[simp] theorem dropCommand_cmd : (dropCommand s).cmd = s.cmd := rfl
@[simp] theorem dropCommand_seq : (dropCommand s).seq = s.seq := rfl
@[simp] theorem dropCommand_done : (dropCommand s).done = s.done := rfl
@[simp] theorem dropCommand_ovr : (dropCommand s).ovr = true := rfl
@[simp] theorem dropCommand_err : (dropCommand s).err = s.err := rfl
@[simp] theorem dropCommand_rounds : (dropCommand s).rounds = s.rounds := rfl
@[simp] theorem dropCommand_ie : (dropCommand s).ie = s.ie := rfl
@[simp] theorem dropCommand_len : (dropCommand s).len = s.len := rfl
@[simp] theorem dropCommand_bdk : (dropCommand s).bdk = s.bdk := rfl
@[simp] theorem dropCommand_ksn : (dropCommand s).ksn = s.ksn := rfl
@[simp] theorem dropCommand_kin : (dropCommand s).kin = s.kin := rfl
@[simp] theorem dropCommand_din : (dropCommand s).din = s.din := rfl
@[simp] theorem dropCommand_kout : (dropCommand s).kout = s.kout := rfl
@[simp] theorem dropCommand_snap : (dropCommand s).snap = s.snap := rfl
@[simp] theorem dropCommand_work : (dropCommand s).work = s.work := rfl
@[simp] theorem dropCommand_host : (dropCommand s).host = s.host := rfl
@[simp] theorem dropCommand_turns : (dropCommand s).turns = s.turns := rfl
@[simp] theorem dropCommand_replies : (dropCommand s).replies = s.replies := rfl
end dropCommand

section succeed
variable (s : State) (k : Key) (n : Nat)
@[simp] theorem succeed_cfg : (succeed s k n).cfg = s.cfg := rfl
@[simp] theorem succeed_cmd : (succeed s k n).cmd = s.cmd := rfl
@[simp] theorem succeed_seq : (succeed s k n).seq = .idle := rfl
@[simp] theorem succeed_done : (succeed s k n).done = true := rfl
@[simp] theorem succeed_ovr : (succeed s k n).ovr = s.ovr := rfl
@[simp] theorem succeed_err : (succeed s k n).err = 0 := rfl
@[simp] theorem succeed_rounds : (succeed s k n).rounds = BitVec.ofNat 5 n := rfl
@[simp] theorem succeed_ie : (succeed s k n).ie = s.ie := rfl
@[simp] theorem succeed_len : (succeed s k n).len = s.len := rfl
@[simp] theorem succeed_bdk : (succeed s k n).bdk = s.bdk := rfl
@[simp] theorem succeed_ksn : (succeed s k n).ksn = s.ksn := rfl
@[simp] theorem succeed_kin : (succeed s k n).kin = s.kin := rfl
@[simp] theorem succeed_din : (succeed s k n).din = s.din := rfl
@[simp] theorem succeed_kout : (succeed s k n).kout = k := rfl
@[simp] theorem succeed_snap : (succeed s k n).snap = Snapshot.cleared := rfl
@[simp] theorem succeed_work : (succeed s k n).work = Working.cleared := rfl
@[simp] theorem succeed_host : (succeed s k n).host = s.host := rfl
@[simp] theorem succeed_turns : (succeed s k n).turns = s.turns := rfl
@[simp] theorem succeed_replies : (succeed s k n).replies = s.replies := rfl
end succeed

section fail
variable (s : State) (e : EngineError)
@[simp] theorem fail_cfg : (fail s e).cfg = s.cfg := rfl
@[simp] theorem fail_cmd : (fail s e).cmd = s.cmd := rfl
@[simp] theorem fail_seq : (fail s e).seq = .idle := rfl
@[simp] theorem fail_done : (fail s e).done = true := rfl
@[simp] theorem fail_ovr : (fail s e).ovr = s.ovr := rfl
@[simp] theorem fail_err : (fail s e).err = errorCode e := rfl
@[simp] theorem fail_rounds : (fail s e).rounds = 0 := rfl
@[simp] theorem fail_ie : (fail s e).ie = s.ie := rfl
@[simp] theorem fail_len : (fail s e).len = s.len := rfl
@[simp] theorem fail_bdk : (fail s e).bdk = s.bdk := rfl
@[simp] theorem fail_ksn : (fail s e).ksn = s.ksn := rfl
@[simp] theorem fail_kin : (fail s e).kin = s.kin := rfl
@[simp] theorem fail_din : (fail s e).din = s.din := rfl
@[simp] theorem fail_kout : (fail s e).kout = 0 := rfl
@[simp] theorem fail_snap : (fail s e).snap = Snapshot.cleared := rfl
@[simp] theorem fail_work : (fail s e).work = Working.cleared := rfl
@[simp] theorem fail_host : (fail s e).host = s.host := rfl
@[simp] theorem fail_turns : (fail s e).turns = s.turns := rfl
@[simp] theorem fail_replies : (fail s e).replies = s.replies := rfl
end fail

section writeStatus
variable (s : State) (w : Word)
@[simp] theorem writeStatus_cfg : (writeStatus s w).cfg = s.cfg := rfl
@[simp] theorem writeStatus_cmd : (writeStatus s w).cmd = s.cmd := rfl
@[simp] theorem writeStatus_seq : (writeStatus s w).seq = s.seq := rfl
@[simp] theorem writeStatus_done : (writeStatus s w).done = (s.done && !w.getLsbD 1) := rfl
@[simp] theorem writeStatus_ovr : (writeStatus s w).ovr = (s.ovr && !w.getLsbD 2) := rfl
@[simp] theorem writeStatus_err : (writeStatus s w).err = s.err := rfl
@[simp] theorem writeStatus_rounds : (writeStatus s w).rounds = s.rounds := rfl
@[simp] theorem writeStatus_ie : (writeStatus s w).ie = s.ie := rfl
@[simp] theorem writeStatus_len : (writeStatus s w).len = s.len := rfl
@[simp] theorem writeStatus_bdk : (writeStatus s w).bdk = s.bdk := rfl
@[simp] theorem writeStatus_ksn : (writeStatus s w).ksn = s.ksn := rfl
@[simp] theorem writeStatus_kin : (writeStatus s w).kin = s.kin := rfl
@[simp] theorem writeStatus_din : (writeStatus s w).din = s.din := rfl
@[simp] theorem writeStatus_kout : (writeStatus s w).kout = s.kout := rfl
@[simp] theorem writeStatus_snap : (writeStatus s w).snap = s.snap := rfl
@[simp] theorem writeStatus_work : (writeStatus s w).work = s.work := rfl
@[simp] theorem writeStatus_host : (writeStatus s w).host = s.host := rfl
@[simp] theorem writeStatus_turns : (writeStatus s w).turns = s.turns := rfl
@[simp] theorem writeStatus_replies : (writeStatus s w).replies = s.replies := rfl
end writeStatus

section writeCtrl
variable (s : State) (w : Word)
@[simp] theorem writeCtrl_cfg : (writeCtrl s w).cfg = s.cfg := rfl
@[simp] theorem writeCtrl_cmd : (writeCtrl s w).cmd = s.cmd := rfl
@[simp] theorem writeCtrl_seq : (writeCtrl s w).seq = s.seq := rfl
@[simp] theorem writeCtrl_done : (writeCtrl s w).done = s.done := rfl
@[simp] theorem writeCtrl_ovr : (writeCtrl s w).ovr = s.ovr := rfl
@[simp] theorem writeCtrl_err : (writeCtrl s w).err = s.err := rfl
@[simp] theorem writeCtrl_rounds : (writeCtrl s w).rounds = s.rounds := rfl
@[simp] theorem writeCtrl_ie : (writeCtrl s w).ie = w.getLsbD 0 := rfl
@[simp] theorem writeCtrl_len : (writeCtrl s w).len = s.len := rfl
@[simp] theorem writeCtrl_bdk : (writeCtrl s w).bdk = s.bdk := rfl
@[simp] theorem writeCtrl_ksn : (writeCtrl s w).ksn = s.ksn := rfl
@[simp] theorem writeCtrl_kin : (writeCtrl s w).kin = s.kin := rfl
@[simp] theorem writeCtrl_din : (writeCtrl s w).din = s.din := rfl
@[simp] theorem writeCtrl_kout : (writeCtrl s w).kout = s.kout := rfl
@[simp] theorem writeCtrl_snap : (writeCtrl s w).snap = s.snap := rfl
@[simp] theorem writeCtrl_work : (writeCtrl s w).work = s.work := rfl
@[simp] theorem writeCtrl_host : (writeCtrl s w).host = s.host := rfl
@[simp] theorem writeCtrl_turns : (writeCtrl s w).turns = s.turns := rfl
@[simp] theorem writeCtrl_replies : (writeCtrl s w).replies = s.replies := rfl
end writeCtrl

section giveReply
variable (s : State) (r : Reply)
@[simp] theorem giveReply_cfg : (giveReply s r).cfg = s.cfg := rfl
@[simp] theorem giveReply_cmd : (giveReply s r).cmd = s.cmd := rfl
@[simp] theorem giveReply_seq : (giveReply s r).seq = s.seq := rfl
@[simp] theorem giveReply_done : (giveReply s r).done = s.done := rfl
@[simp] theorem giveReply_ovr : (giveReply s r).ovr = s.ovr := rfl
@[simp] theorem giveReply_err : (giveReply s r).err = s.err := rfl
@[simp] theorem giveReply_rounds : (giveReply s r).rounds = s.rounds := rfl
@[simp] theorem giveReply_ie : (giveReply s r).ie = s.ie := rfl
@[simp] theorem giveReply_len : (giveReply s r).len = s.len := rfl
@[simp] theorem giveReply_bdk : (giveReply s r).bdk = s.bdk := rfl
@[simp] theorem giveReply_ksn : (giveReply s r).ksn = s.ksn := rfl
@[simp] theorem giveReply_kin : (giveReply s r).kin = s.kin := rfl
@[simp] theorem giveReply_din : (giveReply s r).din = s.din := rfl
@[simp] theorem giveReply_kout : (giveReply s r).kout = s.kout := rfl
@[simp] theorem giveReply_snap : (giveReply s r).snap = s.snap := rfl
@[simp] theorem giveReply_work : (giveReply s r).work = s.work := rfl
@[simp] theorem giveReply_host : (giveReply s r).host = s.host := rfl
@[simp] theorem giveReply_turns : (giveReply s r).turns = s.turns := rfl
@[simp] theorem giveReply_replies : (giveReply s r).replies = r :: s.replies := rfl
end giveReply

section hostGoto
variable (s : State) (pc : Nat)
@[simp] theorem hostGoto_cfg : (hostGoto s pc).cfg = s.cfg := rfl
@[simp] theorem hostGoto_cmd : (hostGoto s pc).cmd = s.cmd := rfl
@[simp] theorem hostGoto_seq : (hostGoto s pc).seq = s.seq := rfl
@[simp] theorem hostGoto_done : (hostGoto s pc).done = s.done := rfl
@[simp] theorem hostGoto_ovr : (hostGoto s pc).ovr = s.ovr := rfl
@[simp] theorem hostGoto_err : (hostGoto s pc).err = s.err := rfl
@[simp] theorem hostGoto_rounds : (hostGoto s pc).rounds = s.rounds := rfl
@[simp] theorem hostGoto_ie : (hostGoto s pc).ie = s.ie := rfl
@[simp] theorem hostGoto_len : (hostGoto s pc).len = s.len := rfl
@[simp] theorem hostGoto_bdk : (hostGoto s pc).bdk = s.bdk := rfl
@[simp] theorem hostGoto_ksn : (hostGoto s pc).ksn = s.ksn := rfl
@[simp] theorem hostGoto_kin : (hostGoto s pc).kin = s.kin := rfl
@[simp] theorem hostGoto_din : (hostGoto s pc).din = s.din := rfl
@[simp] theorem hostGoto_kout : (hostGoto s pc).kout = s.kout := rfl
@[simp] theorem hostGoto_snap : (hostGoto s pc).snap = s.snap := rfl
@[simp] theorem hostGoto_work : (hostGoto s pc).work = s.work := rfl
@[simp] theorem hostGoto_host : (hostGoto s pc).host = { s.host with pc := pc } := rfl
@[simp] theorem hostGoto_turns : (hostGoto s pc).turns = s.turns := rfl
@[simp] theorem hostGoto_replies : (hostGoto s pc).replies = s.replies := rfl
end hostGoto

section hostStore
variable (s : State) (name : Nat) (w : Word)
@[simp] theorem hostStore_cfg : (hostStore s name w).cfg = s.cfg := rfl
@[simp] theorem hostStore_cmd : (hostStore s name w).cmd = s.cmd := rfl
@[simp] theorem hostStore_seq : (hostStore s name w).seq = s.seq := rfl
@[simp] theorem hostStore_done : (hostStore s name w).done = s.done := rfl
@[simp] theorem hostStore_ovr : (hostStore s name w).ovr = s.ovr := rfl
@[simp] theorem hostStore_err : (hostStore s name w).err = s.err := rfl
@[simp] theorem hostStore_rounds : (hostStore s name w).rounds = s.rounds := rfl
@[simp] theorem hostStore_ie : (hostStore s name w).ie = s.ie := rfl
@[simp] theorem hostStore_len : (hostStore s name w).len = s.len := rfl
@[simp] theorem hostStore_bdk : (hostStore s name w).bdk = s.bdk := rfl
@[simp] theorem hostStore_ksn : (hostStore s name w).ksn = s.ksn := rfl
@[simp] theorem hostStore_kin : (hostStore s name w).kin = s.kin := rfl
@[simp] theorem hostStore_din : (hostStore s name w).din = s.din := rfl
@[simp] theorem hostStore_kout : (hostStore s name w).kout = s.kout := rfl
@[simp] theorem hostStore_snap : (hostStore s name w).snap = s.snap := rfl
@[simp] theorem hostStore_work : (hostStore s name w).work = s.work := rfl
@[simp] theorem hostStore_host : (hostStore s name w).host = { s.host with values := storeValue name w s.host.values } := rfl
@[simp] theorem hostStore_turns : (hostStore s name w).turns = s.turns := rfl
@[simp] theorem hostStore_replies : (hostStore s name w).replies = s.replies := rfl
end hostStore

section resetEngine
variable (s : State)
@[simp] theorem resetEngine_cfg : (resetEngine s).cfg = s.cfg := rfl
@[simp] theorem resetEngine_cmd : (resetEngine s).cmd = 0 := rfl
@[simp] theorem resetEngine_seq : (resetEngine s).seq = .idle := rfl
@[simp] theorem resetEngine_done : (resetEngine s).done = false := rfl
@[simp] theorem resetEngine_ovr : (resetEngine s).ovr = false := rfl
@[simp] theorem resetEngine_err : (resetEngine s).err = 0 := rfl
@[simp] theorem resetEngine_rounds : (resetEngine s).rounds = 0 := rfl
@[simp] theorem resetEngine_ie : (resetEngine s).ie = false := rfl
@[simp] theorem resetEngine_len : (resetEngine s).len = 0x00500080 := rfl
@[simp] theorem resetEngine_bdk : (resetEngine s).bdk = 0 := rfl
@[simp] theorem resetEngine_ksn : (resetEngine s).ksn = 0 := rfl
@[simp] theorem resetEngine_kin : (resetEngine s).kin = 0 := rfl
@[simp] theorem resetEngine_din : (resetEngine s).din = 0 := rfl
@[simp] theorem resetEngine_kout : (resetEngine s).kout = 0 := rfl
@[simp] theorem resetEngine_snap : (resetEngine s).snap = Snapshot.cleared := rfl
@[simp] theorem resetEngine_work : (resetEngine s).work = Working.cleared := rfl
@[simp] theorem resetEngine_host : (resetEngine s).host = s.host := rfl
@[simp] theorem resetEngine_turns : (resetEngine s).turns = s.turns := rfl
@[simp] theorem resetEngine_replies : (resetEngine s).replies = s.replies := rfl
end resetEngine

end Sys2Proof.Machine
end

