-- ==== Sys2Proof/Laws/Ops.lean ====
section
/-! SUPPORT. What each shared operation can do, said once: computations and their calls, the completion step, the register
window, the host's turn, and one step of the machine. -/

namespace Sys2Proof.Machine

/-! Computations. -/

section run
variable {α β : Type}

@[simp] theorem Run.pure_result (a : α) : (Run.pure a).result = .ok a := rfl

@[simp] theorem Run.pure_calls (a : α) : (Run.pure a).calls = [] := rfl

@[simp] theorem Run.raise_result (e : EngineError) : (Run.raise e : Run α).result = .error e := rfl

@[simp] theorem Run.raise_calls (e : EngineError) : (Run.raise e : Run α).calls = [] := rfl

theorem Run.andThen_of_ok {x : Run α} {a : α} (h : x.result = .ok a) (f : α → Run β) :
    x.andThen f = { calls := x.calls ++ (f a).calls, result := (f a).result } := by
  simp [Run.andThen, h]

theorem Run.andThen_of_error {x : Run α} {e : EngineError} (h : x.result = .error e) (f : α → Run β) :
    x.andThen f = { calls := x.calls, result := .error e } := by
  simp [Run.andThen, h]

@[simp] theorem Run.pure_andThen (a : α) (f : α → Run β) : (Run.pure a).andThen f = f a := by
  simp [Run.andThen]

@[simp] theorem Run.raise_andThen (e : EngineError) (f : α → Run β) :
    (Run.raise e).andThen f = Run.raise e := rfl

/-- A sequence succeeds exactly when both parts do. -/
theorem Run.andThen_ok_iff {x : Run α} {f : α → Run β} {b : β} :
    (x.andThen f).result = .ok b ↔ ∃ a, x.result = .ok a ∧ (f a).result = .ok b := by
  cases h : x.result with
  | error e => simp [Run.andThen, h]
  | ok a => simp [Run.andThen, h]

/-- A sequence fails where its first part does, or where the second does after it. -/
theorem Run.andThen_error_iff {x : Run α} {f : α → Run β} {e : EngineError} :
    (x.andThen f).result = .error e ↔
      x.result = .error e ∨ ∃ a, x.result = .ok a ∧ (f a).result = .error e := by
  cases h : x.result with
  | error e' => simp [Run.andThen, h]
  | ok a => simp [Run.andThen, h]

end run

@[simp] theorem callSenc_calls (c : Cipher) (k b : Block) : (callSenc c k b).calls = [.senc k b] := rfl

@[simp] theorem callTenc_calls (c : Cipher) (k : Key) (b : Block) : (callTenc c k b).calls = [.tenc k b] := rfl

theorem cipherAnswer_ok_iff {r : Option Block} {b : Block} : cipherAnswer r = .ok b ↔ r = some b := by
  cases r <;> simp [cipherAnswer]

theorem cipherAnswer_error_iff {r : Option Block} {e : EngineError} :
    cipherAnswer r = .error e ↔ r = none ∧ e = .cipherFailure := by
  cases r <;> simp [cipherAnswer, eq_comm]

/-! The completion step. -/

@[simp] theorem complete_ok (s : State) (k : Key) (n : Nat) : complete s (.ok (k, n)) = succeed s k n := rfl

@[simp] theorem complete_error (s : State) (e : EngineError) : complete s (.error e) = fail s e := rfl

/-- A completion succeeds or fails, and nothing else. -/
theorem complete_cases (s : State) (r : Except EngineError (Key × Nat)) :
    (∃ k n, r = .ok (k, n) ∧ complete s r = succeed s k n) ∨ (∃ e, r = .error e ∧ complete s r = fail s e) := by
  cases r with
  | ok kn => exact .inl ⟨kn.1, kn.2, rfl, rfl⟩
  | error e => exact .inr ⟨e, rfl, rfl⟩

/-- Every command's meaning is the completion step with its outcome. -/
theorem exec_eq_complete (i : Instr) (s : State) : exec i s = .next (complete s (runOf i s.cfg s.snap).result) := by
  cases i <;> rfl

theorem completeCommand_eq (s : State) : completeCommand s = .next (complete s (commandRun s.cfg s.snap).result) := by
  unfold completeCommand commandRun
  cases decode s.snap.cmd with
  | ok i => exact exec_eq_complete i s
  | error _ => rfl

/-! Acceptance and the dropped command. -/

theorem writeCmd_of_idle {s : State} (h : s.seq = .idle) (w : Word) : writeCmd s w = accept s w := by
  simp [writeCmd, h]

theorem writeCmd_of_busy {s : State} (h : s.seq = .busy) (w : Word) : writeCmd s w = dropCommand s := by
  simp [writeCmd, h]

/-! The register window. -/

theorem regAt_regOffset (r : RegWord) : regAt (regOffset r) = some r := by
  rcases r with _ | _ | _ | _ | j | j | j | j | j
  all_goals first | rfl | (fin_cases j <;> rfl)

theorem eq_regOffset_of_regAt {off : Nat} {r : RegWord} (h : regAt off = some r) : off = regOffset r := by
  unfold regAt at h
  split at h <;> cases h <;> rfl

/-- What a write to a register word leaves: one of these, by the word. -/
theorem writeReg_cases (s : State) (r : RegWord) (w : Word) :
    (r = .cmd ∧ s.seq = .idle ∧ writeReg s r w = accept s w) ∨
    (r = .cmd ∧ s.seq = .busy ∧ writeReg s r w = dropCommand s) ∨
    (r = .status ∧ writeReg s r w = writeStatus s w) ∨
    (r = .ctrl ∧ writeReg s r w = writeCtrl s w) ∨
    (r = .len ∧ writeReg s r w = { s with len := w }) ∨
    (∃ j, r = .bdk j ∧ writeReg s r w = { s with bdk := setWordAt s.bdk j.val w }) ∨
    (∃ j, r = .ksn j ∧ writeReg s r w = { s with ksn := setKsnWord s.ksn j.val w }) ∨
    (∃ j, r = .kin j ∧ writeReg s r w = { s with kin := setWordAt s.kin j.val w }) ∨
    (∃ j, r = .din j ∧ writeReg s r w = { s with din := setWordAt s.din j.val w }) ∨
    (∃ j, r = .kout j ∧ writeReg s r w = s) := by
  cases r with
  | cmd => cases h : s.seq <;> simp [writeReg, writeCmd, h]
  | _ => simp [writeReg]

section writeReg
variable (s : State) (r : RegWord) (w : Word)

@[simp] theorem writeReg_cfg : (writeReg s r w).cfg = s.cfg := by
  cases r <;> simp [writeReg, writeCmd]; split <;> rfl

@[simp] theorem writeReg_kout : (writeReg s r w).kout = s.kout := by
  cases r <;> simp [writeReg, writeCmd]; split <;> rfl

@[simp] theorem writeReg_host : (writeReg s r w).host = s.host := by
  cases r <;> simp [writeReg, writeCmd]; split <;> rfl

@[simp] theorem writeReg_turns : (writeReg s r w).turns = s.turns := by
  cases r <;> simp [writeReg, writeCmd]; split <;> rfl

@[simp] theorem writeReg_replies : (writeReg s r w).replies = s.replies := by
  cases r <;> simp [writeReg, writeCmd]; split <;> rfl

/-- No write reaches a running command. -/
theorem writeReg_of_busy (h : s.seq = .busy) :
    (writeReg s r w).seq = .busy ∧ (writeReg s r w).snap = s.snap ∧ (writeReg s r w).work = s.work ∧
    (writeReg s r w).cmd = s.cmd ∧ (writeReg s r w).err = s.err ∧ (writeReg s r w).rounds = s.rounds := by
  cases r <;> simp [writeReg, writeCmd, h]

end writeReg

/-- An access is a bus error, a read of one word or a write of one word, and hands back one reply. -/
theorem performAccess_cases (s : State) (a : Access) :
    (accessTarget s.cfg.base a = none ∧ performAccess s a = giveReply s .busError) ∨
    (∃ r, accessTarget s.cfg.base a = some r ∧ a.kind = .read ∧
      performAccess s a = giveReply s (.data (readReg s r))) ∨
    (∃ r w, accessTarget s.cfg.base a = some r ∧ a.kind = .write w ∧
      performAccess s a = giveReply (writeReg s r w) .done) := by
  rcases h : accessTarget s.cfg.base a with _ | r
  · exact .inl ⟨rfl, by simp [performAccess, h]⟩
  · rcases hk : a.kind with _ | w
    · exact .inr (.inl ⟨r, rfl, rfl, by simp [performAccess, h, hk]⟩)
    · exact .inr (.inr ⟨r, w, rfl, rfl, by simp [performAccess, h, hk]⟩)

@[simp] theorem performAccess_cfg (s : State) (a : Access) : (performAccess s a).cfg = s.cfg := by
  obtain ⟨-, h⟩ | ⟨r, -, -, h⟩ | ⟨r, w, -, -, h⟩ := performAccess_cases s a <;> simp [h]

@[simp] theorem performAccess_kout (s : State) (a : Access) : (performAccess s a).kout = s.kout := by
  obtain ⟨-, h⟩ | ⟨r, -, -, h⟩ | ⟨r, w, -, -, h⟩ := performAccess_cases s a <;> simp [h]

@[simp] theorem performAccess_host (s : State) (a : Access) : (performAccess s a).host = s.host := by
  obtain ⟨-, h⟩ | ⟨r, -, -, h⟩ | ⟨r, w, -, -, h⟩ := performAccess_cases s a <;> simp [h]

@[simp] theorem performAccess_turns (s : State) (a : Access) : (performAccess s a).turns = s.turns := by
  obtain ⟨-, h⟩ | ⟨r, -, -, h⟩ | ⟨r, w, -, -, h⟩ := performAccess_cases s a <;> simp [h]

/-- The access of a host line reaches the register word the line names. -/
theorem accessTarget_lineAccess (base : Nat) (r : RegWord) (k : AccessKind) :
    accessTarget base (lineAccess base r k) = some r := by
  simp [accessTarget, lineAccess, regAt_regOffset]

/-- A 32-bit access at an offset of the window reaches the register word of the window's map. -/
theorem accessTarget_window (base off : Nat) (k : AccessKind) :
    accessTarget base { addr := base + off, width := 32, kind := k } = regAt off := by
  simp [accessTarget]

/-- An access below the window reaches nothing. -/
theorem accessTarget_below {base : Nat} {a : Access} (h : a.addr < base) : accessTarget base a = none := by
  simp [accessTarget, Nat.not_le_of_lt h]

theorem performAccess_lineWrite (s : State) (r : RegWord) (w : Word) :
    performAccess s (lineAccess s.cfg.base r (.write w)) = giveReply (writeReg s r w) .done := by
  rw [performAccess, accessTarget_lineAccess]; rfl

theorem performAccess_lineRead (s : State) (r : RegWord) :
    performAccess s (lineAccess s.cfg.base r .read) = giveReply s (.data (readReg s r)) := by
  rw [performAccess, accessTarget_lineAccess]; rfl

/-! The host. -/

theorem lookupValue_storeValue_self (name : Nat) (w : Word) (vs : List (Nat × Word)) :
    lookupValue name (storeValue name w vs) = some w := by
  induction vs with
  | nil => simp [storeValue, lookupValue]
  | cons v vs ih =>
    obtain ⟨m, x⟩ := v
    simp only [storeValue]
    split
    · simp [lookupValue]
    · split
      · simp [lookupValue]
      · simp_all [lookupValue, eq_comm]

theorem lookupValue_storeValue_of_ne {name other : Nat} (h : other ≠ name) (w : Word) (vs : List (Nat × Word)) :
    lookupValue other (storeValue name w vs) = lookupValue other vs := by
  induction vs with
  | nil => simp [storeValue, lookupValue, h.symm]
  | cons v vs ih =>
    obtain ⟨m, x⟩ := v
    simp only [storeValue]
    split
    · simp [lookupValue, h.symm]
    · split
      · next hm => subst hm; simp [lookupValue, h.symm]
      · simp [lookupValue, ih]

/-- A host branch that answers a next state only moves the host's program counter. -/
theorem hostBranch_next {s t : State} {name hi lo v l : Nat} (h : hostBranch s name hi lo v l = .next t) :
    ∃ pc, t = hostGoto s pc := by
  unfold hostBranch at h
  repeat' split at h
  all_goals cases h
  all_goals exact ⟨_, rfl⟩

/-- What the host's turn can do. -/
theorem hostTurn_cases {s t : State} (h : hostTurn s = .next t) :
    t = s ∨
    (∃ r w pc, t = hostGoto (giveReply (writeReg s r w) .done) pc) ∨
    (∃ r name pc, t = hostGoto (hostStore (giveReply s (.data (readReg s r))) name (readReg s r)) pc) ∨
    (∃ pc, t = hostGoto s pc) := by
  unfold hostTurn at h
  split at h
  · next line _ =>
    cases line with
    | write r w =>
      simp only [hostLine, performAccess_lineWrite] at h
      cases h
      exact .inr (.inl ⟨r, w, _, rfl⟩)
    | read r name =>
      simp only [hostLine, performAccess_lineRead] at h
      cases h
      exact .inr (.inr (.inl ⟨r, name, _, rfl⟩))
    | label l =>
      cases h
      exact .inr (.inr (.inr ⟨_, rfl⟩))
    | branch name hi lo v l =>
      exact .inr (.inr (.inr (hostBranch_next h)))
  · cases h
    exact .inl rfl

/-! Host programs with their pseudo-instructions expanded. -/

theorem assembleFrom_append (l : Nat) (p q : List Pseudo) :
    assembleFrom l (p ++ q) = assembleFrom l p ++ assembleFrom (l + p.length) q := by
  induction p generalizing l with
  | nil => rfl
  | cons x xs ih => simp [assembleFrom, ih, Nat.add_assoc, Nat.add_comm 1]

/-- A line of an expansion names the label it was given, or the label of the program's own line. -/
theorem expand_label {l m : Nat} {x : Pseudo} {line : HostLine} (h : line ∈ expand l x) (hm : lineLabel line = some m) :
    m = l ∨ x.ownLabel = some m := by
  cases x <;> simp [expand] at h
  case line => subst h; exact .inr hm
  case wait => rcases h with rfl | rfl | rfl <;> simp_all [lineLabel]
  all_goals first
    | (subst h; simp [lineLabel] at hm)
    | (rcases h with rfl | rfl | rfl | rfl <;> simp [lineLabel] at hm)

/-- The labels an assembled program names: those handed out from l on, and those of the program's own lines. -/
theorem assembleFrom_label {l m : Nat} {p : List Pseudo} {line : HostLine} (h : line ∈ assembleFrom l p)
    (hm : lineLabel line = some m) : (l ≤ m ∧ m < l + p.length) ∨ ∃ x ∈ p, x.ownLabel = some m := by
  induction p generalizing l with
  | nil => simp [assembleFrom] at h
  | cons x xs ih =>
    rcases List.mem_append.1 h with h | h
    · rcases expand_label h hm with rfl | hx
      · exact .inl ⟨Nat.le_refl _, by simp⟩
      · exact .inr ⟨x, by simp, hx⟩
    · rcases ih h with ⟨h1, h2⟩ | ⟨y, hy, hm⟩
      · exact .inl ⟨by omega, by simp only [List.length_cons]; omega⟩
      · exact .inr ⟨y, by simp [hy], hm⟩

/-- The labels of a program's own lines lie below the fresh ones. -/
theorem ownLabel_lt_freshFrom {m : Nat} {x : Pseudo} {p : List Pseudo} (hx : x ∈ p) (hm : x.ownLabel = some m) :
    m < freshFrom p := by
  induction p with
  | nil => simp at hx
  | cons y ys ih =>
    rcases List.mem_cons.1 hx with rfl | hx
    · simp only [freshFrom, hm]; omega
    · have := ih hx
      simp only [freshFrom]
      split <;> omega

/-! One step. -/

/-- A stage of work of a BUSY engine changes its working values only. -/
theorem tick_of_busy {s : State} (h : s.seq = .busy) : tick s = { s with work := workStep s.cfg s.snap s.work } := by
  simp [tick, h]

theorem tick_of_idle {s : State} (h : s.seq = .idle) : tick s = s := by
  simp [tick, h]

/-- The machine without its next turn. -/
def popTurn (s : State) : State :=
  { s with turns := s.turns.tail }

section popTurn
variable (s : State)
@[simp] theorem popTurn_cfg : (popTurn s).cfg = s.cfg := rfl
@[simp] theorem popTurn_seq : (popTurn s).seq = s.seq := rfl
@[simp] theorem popTurn_snap : (popTurn s).snap = s.snap := rfl
@[simp] theorem popTurn_work : (popTurn s).work = s.work := rfl
@[simp] theorem popTurn_kout : (popTurn s).kout = s.kout := rfl
@[simp] theorem popTurn_host : (popTurn s).host = s.host := rfl
end popTurn

/-- Everything one step can do: the host's turn, an access, a stage of work, a completion, a reset, or nothing. -/
theorem step_cases {s t : State} (h : step s = .next t) :
    hostTurn (popTurn s) = .next t ∨
    (∃ a, t = performAccess (popTurn s) a) ∨
    t = tick (popTurn s) ∨
    (s.seq = .busy ∧ t = complete (popTurn s) (commandRun s.cfg s.snap).result) ∨
    (s.seq = .idle ∧ t = popTurn s) ∨
    t = resetEngine (popTurn s) := by
  unfold step at h
  split at h
  · next u ts hts =>
    have hp : ({ s with turns := ts } : State) = popTurn s := by simp [popTurn, hts]
    rw [hp] at h
    cases u with
    | host => exact .inl h
    | access a => cases h; exact .inr (.inl ⟨a, rfl⟩)
    | tick => cases h; exact .inr (.inr (.inl rfl))
    | complete =>
      simp only [takeTurn, completionTurn, popTurn_seq] at h
      split at h
      · next hb =>
        rw [completeCommand_eq] at h
        cases h
        exact .inr (.inr (.inr (.inl ⟨hb, rfl⟩)))
      · next hi =>
        cases h
        exact .inr (.inr (.inr (.inr (.inl ⟨hi, rfl⟩))))
    | reset => cases h; exact .inr (.inr (.inr (.inr (.inr rfl))))
  · next hts =>
    have hp : s = popTurn s := by cases s; cases hts; rfl
    simp only [defaultTurn] at h
    split at h
    · next hb =>
      rw [completeCommand_eq] at h
      cases h
      exact .inr (.inr (.inr (.inl ⟨hb, by rw [← hp]⟩)))
    · exact .inl (hp ▸ h)

end Sys2Proof.Machine
end

