-- ==== Sys2Proof/Laws/PerInstr.lean ====
section
/-! SUPPORT. The families of statements made of every command as syntax, one lemma for each constructor. -/

namespace Sys2Proof.Laws

/-- The word of a command passes the checks of spec/30_encoding.md R86. -/
def LegalWord.Statement (i : Instr) : Prop :=
  (fieldsOf (encode i)).wellFormed = true

theorem LegalWord.advance : LegalWord.Statement .advance := by
  unfold LegalWord.Statement; decide

theorem LegalWord.deriveIpek : LegalWord.Statement .deriveIpek := by
  unfold LegalWord.Statement; decide

theorem LegalWord.deriveSession : LegalWord.Statement .deriveSession := by
  unfold LegalWord.Statement; decide

theorem LegalWord.applyMask (u : Usage) : LegalWord.Statement (.applyMask u) := by
  unfold LegalWord.Statement; cases u <;> decide

theorem LegalWord.computeKey (u : Usage) : LegalWord.Statement (.computeKey u) := by
  unfold LegalWord.Statement; cases u <;> decide

theorem LegalWord.computeDataKeyVariant : LegalWord.Statement .computeDataKeyVariant := by
  unfold LegalWord.Statement; decide

end Sys2Proof.Laws
end

