-- ==== Sys2Proof/Tests/Slice0.lean ====
section
/-! SUPPORT. The model's own tests. Expected values come from the spec: spec/95_test_vectors.md (its vector's name stands
in each comment), spec/46_des_reference.md R246, spec/30_encoding.md. After them, for each statement that has hypotheses,
a concrete state that meets them. -/

namespace Sys2Proof.Tests

open Sys2Proof.Machine

/-- EXAMPLE_CFG (spec/95_test_vectors.md section 1), PIN_RESPONSE 0 as in T-MSK-7. -/
def exampleMasks : UsageMasks where
  pinRequest := 0x00000000000000FF00000000000000FF
  pinResponse := 0
  macRequest := 0x000000000000FF00000000000000FF00
  macResponse := 0x00000000FF00000000000000FF000000
  dataRequest := 0x0000000000FF00000000000000FF0000
  dataResponse := 0x000000FF00000000000000FF00000000

def exampleConfig : Config where
  cipher := .des
  masks := exampleMasks
  ksnOverlength := .accept
  base := 0x4000

def bdkRef : Key := 0x0123456789ABCDEFFEDCBA9876543210

def ipekRef : Key := 0x6AC292FAA1315B4D858AB3A3D7D5933A

/-- A freshly reset engine of the example build with operands loaded. -/
def loaded (bdk : Key) (ksn : Ksn) (kin : Key) (din : Block) : State :=
  { State.reset with cfg := exampleConfig, bdk := bdk, ksn := ksn, kin := kin, din := din }

def nextOf : Outcome → Option State
  | .next s => some s
  | .fault _ => none
  | .refused _ => none

/-- KOUT and STATUS after a command word written to CMD has completed (spec/40_command_lifecycle.md R110). -/
def observe (s : State) (w : Nat) : Option (Key × Word) :=
  (nextOf (step (s.withFetchWord 32 w))).map fun t => (t.kout, statusWord t)

/-! Decoding: words written out from spec/30_encoding.md R81 to R85 (spec/95_test_vectors.md section 3.8). -/

theorem test_decode_advance : decode 0b00000000000000000000000000000001 = .ok .advance := by decide

theorem test_decode_deriveIpek : decode 0b00000000000000000000000000000010 = .ok .deriveIpek := by decide

theorem test_decode_deriveSession : decode 0b00000000000000000000000000000011 = .ok .deriveSession := by decide

theorem test_decode_applyMask : decode 0b00000000000000000000000001010100 = .ok (.applyMask .dataResponse) := by decide

theorem test_decode_applyMask_pinResponse : decode 0b00000000000000000000000000010100 = .ok (.applyMask .pinResponse) := by
  decide

theorem test_decode_computeKey : decode 0b00000000000000000000000000100101 = .ok (.computeKey .macRequest) := by decide

theorem test_decode_computeDataKeyVariant : decode 0b00000000000000000000000000000110 = .ok .computeDataKeyVariant := by
  decide

theorem test_decode_illegal : (decode 0x00000000 = .error .undefinedOpcode ∧ decode 0x00000007 = .error .undefinedOpcode) ∧
    decode 0x00000011 = .error .unusedUsage ∧ decode 0x00000075 = .error .undefinedUsage ∧
    decode 0x00000085 = .error .reservedBits ∧ decode 0x80000005 = .error .reservedBits := by decide

/-! WellFormed: one ill-formed term for each check (spec/30_encoding.md R86), refused. -/

theorem test_illFormed_opcode : (CommandFields.mk 7 0 0).opDefined = false ∧ (CommandFields.mk 0 0 0).wellFormed = false := by
  decide

theorem test_illFormed_reserved : (CommandFields.mk 1 0 1).resZero = false ∧ (CommandFields.mk 1 0 1).wellFormed = false := by
  decide

theorem test_illFormed_usage : (CommandFields.mk 4 6 0).usageInRange = false ∧ (CommandFields.mk 5 7 0).wellFormed = false := by
  decide

theorem test_illFormed_unusedUsage :
    (CommandFields.mk 6 1 0).usageZeroElsewhere = false ∧ (CommandFields.mk 1 1 0).wellFormed = false := by decide

theorem test_illFormed_hostLine : lineWellFormed [.label 1] (.branch 0 31 0 0 2) = false ∧
    lineWellFormed [.label 1] (.branch 0 32 0 0 1) = false ∧ lineWellFormed [.label 1] (.branch 0 0 1 0 1) = false ∧
    programWellFormed (assemble [.wait 7]) = true := by decide

/-! The default cipher (spec/46_des_reference.md R246). -/

theorem test_des_textbook : desEncrypt 0x133457799BBCDFF1 0x0123456789ABCDEF = 0x85E813540F0AB405 := by decide +kernel

theorem test_des_decrypt : desDecrypt 0x133457799BBCDFF1 0x85E813540F0AB405 = 0x0123456789ABCDEF := by decide +kernel

theorem test_tdes : tdesEncrypt 0xC1E385A789ABCDEF3E1C7A5876543210 0xFFFF9876543210E0 = 0x858AB3A3D7D5933A := by
  decide +kernel

/-! Commands. -/

/-- T-ADV-5. -/
theorem test_advance : observe (loaded 0 0 bdkRef 0x0123456789ABCDEF) 0x01 =
    some (0xD7BF8AA5413E96CBA7AF99CE853BEC16, 0x00000102) := by decide +kernel

/-- T-IPEK-6. -/
theorem test_deriveIpek : observe (loaded 0xFFFFFFFFFFFFFFFFFFFFFFFFFFFFFFFF 0xFFFFFFFFFFFFFFFFFFFF 0 0) 0x02 =
    some (0xEE6F8C704E1A6702B4B72617D604E67A, 0x00000002) := by decide +kernel

/-- T-IPEK-4, right after reset (spec/70_reset_and_hazards.md R293). -/
theorem test_deriveIpek_after_reset : observe State.reset 0x02 =
    some (0x8CA64DE9C1B123A737F9A43115D2AF7D, 0x00000002) := by decide +kernel

/-- T-SES-4. -/
theorem test_deriveSession : observe (loaded 0 0xFFFF9876543210E00007 ipekRef 0) 0x03 =
    some (0x0C8F780B7C8B49D0AE84A9EB2A6CE660, 0x00000302) := by decide +kernel

/-- T-SES-1. -/
theorem test_deriveSession_counter_zero : observe (loaded 0 0xFFFF9876543210E00000 ipekRef 0) 0x03 =
    some (ipekRef, 0x00000002) := by decide +kernel

/-- T-MSK-3. -/
theorem test_applyMask : observe (loaded 0 0 0x042666B49184CFA368DE9628D0397BC9 0) 0x24 =
    some (0x042666B4918430A368DE9628D03984C9, 0x00000002) := by decide +kernel

/-- T-MSK-8. -/
theorem test_illegal_word : observe (loaded 0 0 0x042666B49184CFA368DE9628D0397BC9 0) 0x64 = some (0, 0x00000052) := by
  decide +kernel

/-- T-CK-2. -/
theorem test_computeKey : observe (loaded bdkRef 0xFFFF9876543210E00002 0 0) 0x05 =
    some (0xC46551CEF9FD244FAA9AD834130D3B38, 0x00000102) := by decide +kernel

/-- T-CK-11: both lengths are wrong. -/
theorem test_computeKey_lengths : observe { loaded bdkRef 0xFFFF9876543210E00001 0 0 with len := 0x003C0040 } 0x05 =
    some (0, 0x00000012) := by decide +kernel

/-- T-DKV-4. -/
theorem test_computeDataKeyVariant : observe (loaded bdkRef 0xFFFF9876543210E00000 0 0) 0x06 =
    some (0xEA2B1195B02D1E77A14CED05952DF86B, 0x00000002) := by decide +kernel

/-- T-CK-8's lengths under REJECT, on COMPUTE_DATA_KEY_VARIANT. -/
theorem test_computeDataKeyVariant_reject :
    observe { loaded bdkRef 0xFFFF9876543210E00001 0 0 with
      len := 0x00600080, cfg := { exampleConfig with ksnOverlength := .reject } } 0x06 = some (0, 0x00000022) := by
  decide +kernel

/-! The register window (spec/95_test_vectors.md section 3.9) and the lifecycle (section 3.10). -/

/-- T-BUS-2 and W10. -/
theorem test_ksn_words : readReg (writeReg (loaded 0 0 0 0) (.ksn 2) 0xE0001234) (.ksn 2) = 0xE0000000 ∧
    readReg (loaded 0 0xFFFF9876543210E00001 0 0) (.ksn 1) = 0x543210E0 := by decide +kernel

/-- T-BUS-3, T-BUS-6, and an access below the window. -/
theorem test_bus_errors :
    (performAccess (loaded 0 0 0 0) { addr := 0x402C, width := 32, kind := .read }).replies = [.busError] ∧
    (performAccess (loaded 0 0 0 0) { addr := 0x4002, width := 32, kind := .read }).replies = [.busError] ∧
    (performAccess (loaded 0 0 0 0) { addr := 0x3FFC, width := 32, kind := .read }).replies = [.busError] := by
  decide +kernel

/-- T-LC-2 and T-LC-3: the second word is dropped, and STATUS bit 2 written 1 clears OVR. -/
theorem test_dropped_command :
    let s := busWrite (busWrite (loaded bdkRef 0 0 0) 0x00 0x06) 0x00 0x01
    statusWord s = 0x00000005 ∧ s.cmd = 0x06 ∧ s.snap.cmd = 0x06 ∧ statusWord (busWrite s 0x04 0x04) = 0x00000001 := by
  decide +kernel

/-- Two stages of work show in no register word, and APPLY_MASK's touch no derivation state (R203): T-LC-1 after ticks. -/
theorem test_tick_is_invisible : 
    let s := tick (tick (busWrite (loaded 0 0 ipekRef 0) 0x00 0x04))
    statusWord s = 0x00000001 ∧ s.work.transactionKey = 0 ∧ s.work.derivedKey = 0 ∧
      s.work.mask = exampleMasks.pinRequest := by decide +kernel

/-- P1, lines 5 to 7: `load80 KSN`. -/
theorem test_load80 : assemble [.load80Ksn 0xFFFF9876543210E00001] =
    [.write (.ksn 0) 0xFFFF9876, .write (.ksn 1) 0x543210E0, .write (.ksn 2) 0x00010000] := by decide

/-- A `wait` loop goes back while BUSY = 1 and on when BUSY = 0. -/
theorem test_wait_branch :
    let host := fun (w : Word) => ({ program := assemble [.wait 7], pc := 2, values := [(7, w)] } : HostAgent)
    (nextOf (hostTurn { loaded 0 0 0 0 with host := host 0x00000001 })).map (·.host.pc) = some 1 ∧
    (nextOf (hostTurn { loaded 0 0 0 0 with host := host 0x00000102 })).map (·.host.pc) = some 3 := by decide +kernel

/-- Each `wait` has a label no other line names (R90), the program's own lines among them. -/
theorem test_wait_labels_are_fresh : assemble [.wait 7, .line (.label 4), .wait 7] =
    [.label 5, .read .status 7, .branch 7 0 0 1 5, .label 4, .label 7, .read .status 7, .branch 7 0 0 1 7] := by decide

end Sys2Proof.Tests
end

