-- ==== Sys2Proof/Tests/Witnesses.lean ====
section
/-! SUPPORT. For each statement of Sys2Proof/Certificates/Slice0/Obligations.lean that has hypotheses, concrete states and
operands that meet all of them together, one clause after another, at a boundary value where a clause has a range. -/

namespace Sys2Proof.Tests

open Sys2Proof.Machine

/-- An IDLE engine of the example build. -/
def idleState : State :=
  loaded bdkRef 0xFFFF9876543210E00001 ipekRef 0x9876543210E00001

/-- A BUSY engine with this command word accepted and no turn scheduled. -/
def busyState (w : Nat) : State :=
  idleState.withFetchWord 32 w

/-- The build in which every cipher call fails. -/
def failingConfig : Config :=
  { exampleConfig with cipher := .table [] [] }

/-- A cipher that answers one SENC call and one TENC call, each on zero operands, and fails every other. -/
def oneCall : Cipher :=
  .table [{ key := 0, block := 0, result := 1 }] [{ key := 0, block := 0, result := 1 }]

/-- A host program whose only line is a branch to a label that does not stand in it, on a name it has not read. -/
def badBranch : HostAgent where
  program := [.branch 0 31 0 0 1]
  pc := 0
  values := []

theorem witness_ResetGivesTheResetValues :
    ({ busyState 5 with turns := [.reset, .host] } : State).turns = .reset :: [.host] ∧ (busyState 5).seq = .busy :=
  ⟨rfl, rfl⟩

/-- A BUSY engine that meets the invariant. -/
theorem busyState_inv (w : Nat) : Inv (busyState w) where
  errNamed := .inl rfl
  roundsLegal := by show (0 : BitVec 5).toNat ≤ 21; decide
  errorLeavesNothing := fun h => absurd rfl h
  busyShows := fun _ => ⟨rfl, rfl, rfl, rfl⟩
  idleHoldsNothing := fun h => nomatch h

theorem witness_EveryStepKeepsTheInvariant : ∃ s t, Inv s ∧ step s = .next t :=
  ⟨busyState 4, _, busyState_inv 4, rfl⟩

theorem witness_EveryStepKeepsTheWorkOnItsCourse : ∃ s t, s.seq = .busy ∧ WorkFollowsSnapshot s ∧ step s = .next t :=
  ⟨{ busyState 4 with turns := [.tick] }, _, rfl, fun _ => ⟨0, rfl⟩, rfl⟩

theorem witness_EveryStepKeepsTheHostValuesSorted : ∃ s t, ValuesSorted s.host.values ∧ step s = .next t :=
  ⟨{ idleState with host := { program := [.read .len 1], pc := 0, values := [(0, 5), (2, 6)] } }, _,
    by simp [ValuesSorted], rfl⟩

theorem witness_EveryStepKeepsTheBuild : ∃ s t, step s = .next t ∧ s.turns = [.reset] :=
  ⟨{ busyState 4 with turns := [.reset] }, _, rfl, rfl⟩

/-- The stop of OnlyAnIllFormedBranchStopsTheMachine, reached. -/
theorem witness_OnlyAnIllFormedBranchStopsTheMachine :
    step { idleState with host := badBranch } = .fault (.hostUnreadName 0) ∧
    step { idleState with host := { badBranch with values := [(0, 0)] } } = .fault (.hostMissingLabel 1) ∧
    step { idleState with host := { badBranch with program := [.branch 0 32 0 0 1] } } = .fault (.hostIllFormedField 32 0) :=
  ⟨rfl, rfl, rfl⟩

theorem witness_StepRunsTheDecodedCommand :
    ((busyState 1).seq = .busy ∧ (busyState 1).turns = [] ∧ decode (busyState 1).snap.cmd = .ok .advance) ∧
    (({ busyState 0x55 with turns := [.complete] } : State).turns = .complete :: [] ∧
      decode (busyState 0x55).snap.cmd = .ok (.computeKey .dataResponse)) ∧
    decode (busyState 0x64).snap.cmd = .error .undefinedUsage ∧
    (({ busyState 0x64 with turns := [.complete, .host] } : State).turns = .complete :: [.host] ∧
      ({ busyState 0x64 with turns := [.complete, .host] } : State).seq = .busy) ∧
    decodeTableWord 32 6 = some .computeDataKeyVariant := by decide

theorem witness_StepTakesTheScheduledTurn :
    (∃ (s : State) (a : Access), s.turns = .access a :: []) ∧ (∃ s : State, s.turns = .host :: []) ∧
    (∃ s : State, s.turns = .tick :: []) ∧ (busyState 1).seq = .busy ∧ (∃ s : State, s.turns = .complete :: [] ∧ s.seq = .idle) ∧
    (idleState.turns = [] ∧ idleState.seq = .idle ∧ idleState.host.program.length ≤ idleState.host.pc) :=
  ⟨⟨{ idleState with turns := [.access ⟨0, 32, .read⟩] }, _, rfl⟩, ⟨{ idleState with turns := [.host] }, rfl⟩,
    ⟨{ idleState with turns := [.tick] }, rfl⟩, rfl, ⟨{ idleState with turns := [.complete] }, rfl, rfl⟩, rfl, rfl, Nat.le_refl 0⟩

theorem witness_AcceptanceStartsTheCommand : idleState.seq = .idle ∧ decode 0x00000000 = .error .undefinedOpcode := by decide

theorem witness_ACommandWrittenWhileBusyIsDropped : (busyState 6).seq = .busy := rfl

theorem witness_CompletionWritesTheOutcome :
    (busyState 4).seq = .busy ∧
    (commandRun (busyState 4).cfg (busyState 4).snap).result = .ok (ipekRef ^^^ exampleMasks.pinRequest, 0) ∧
    (commandRun failingConfig (busyState 1).snap).result = .error .cipherFailure := by decide +kernel

theorem witness_EveryCommandKeepsItsFrame : RegWord.bdk 3 ≠ .status ∧ (∀ j, RegWord.bdk 3 ≠ .kout j) := by decide

theorem witness_TheWorkReachesTheOutcome :
    workOutcome (busyState 4).snap (workAfter exampleConfig (busyState 4).snap 2) =
      some (.ok (ipekRef ^^^ exampleMasks.pinRequest, 0)) := by decide +kernel

theorem witness_EachCommandReadsOnlyItsOperands :
    let other : State := { busyState 1 with snap := { (busyState 1).snap with bdk := 0, ksn := 0 } }
    (busyState 1).cfg = other.cfg ∧ (busyState 1).snap.kin = other.snap.kin ∧ (busyState 1).snap.din = other.snap.din ∧
    (busyState 1).snap ≠ other.snap := by decide +kernel

theorem witness_EveryAcceptedCommandCompletes :
    ({ busyState 5 with turns := [.access ⟨0x4000, 32, .write 1⟩, .tick, .host] } : State).seq = .busy ∧
    (.reset : Turn) ∉ [Turn.access ⟨0x4000, 32, .write 1⟩, .tick, .host] := by decide

theorem witness_TheRunningCommandIgnoresTheHost : (busyState 2).seq = .busy := rfl

theorem witness_KoutChangesOnlyAtCompletion :
    (∃ s t, step s = .next t ∧ t.kout ≠ s.kout ∧ s.seq = .busy) ∧
    (∃ s t, step s = .next t ∧ t.kout ≠ s.kout ∧ s.turns.head? = some .reset) :=
  ⟨⟨busyState 4, _, rfl, by decide +kernel, rfl⟩, ⟨{ idleState with kout := 1, turns := [.reset] }, _, rfl, by decide, rfl⟩⟩

theorem witness_InternalWorkIsInvisible :
    (∃ t, step (busyState 4) = .next t) ∧ step { idleState with host := badBranch } = .fault (.hostUnreadName 0) :=
  ⟨⟨_, rfl⟩, rfl⟩

theorem witness_VectorWordsHoldTheirBits : 31 < 32 ∧ (127 < 128 ∧ 63 < 64 ∧ 79 < 80) ∧ idleState.ksn = 0xFFFF9876543210E00001 := by
  decide

theorem witness_BusErrorsChangeNothing :
    ((16 ≠ 32 : Prop) ∧ 0x5E % 4 ≠ 0 ∧ 0x60 ≤ 0x60) ∧
    (0x5C % 4 = 0 ∧ 0x5C ≠ 0x2C ∧ 0x5C ≠ 0x48 ∧ 0x5C ≠ 0x4C ∧ 0x5C < 0x60) := by decide

theorem witness_TheWindowHasItsMap : regAt 0x5C = some (.kout 3) ∧ regAt 0x60 = none ∧ 0x3FFF < idleState.cfg.base := by
  decide

theorem witness_ReadsAndWritesHaveNoOtherEffect :
    (RegWord.len ≠ .cmd ∧ RegWord.len ≠ .status ∧ RegWord.ctrl ≠ .len) ∧ idleState.seq = .idle ∧ (busyState 1).seq = .busy := by
  decide

theorem witness_InterruptIsEnableAndDone :
    (({ busyState 4 with ie := true } : State).seq = .busy ∧ ({ busyState 4 with ie := true } : State).ie = true) ∧
    (0x2 : Word).getLsbD 1 = true ∧ idleState.seq = .idle ∧ (0xFFFFFFFE : Word).getLsbD 0 = false := by decide

theorem witness_FourConditionsMakeAWordIllegal :
    (busyState 0x16).seq = .busy ∧ decode (busyState 0x16).snap.cmd = .error .unusedUsage := by decide

theorem witness_AdvanceCompletesWithTheRound :
    (∃ x y, cipherSenc .des (slice ipekRef 0 64) ((busyState 1).snap.din ^^^ slice ipekRef 64 128) = some x ∧
      cipherSenc .des (slice (ipekRef ^^^ 0xC0C0C0C000000000C0C0C0C000000000) 0 64)
        ((busyState 1).snap.din ^^^ slice (ipekRef ^^^ 0xC0C0C0C000000000C0C0C0C000000000) 64 128) = some y) ∧
    cipherSenc (.table [] []) (leftHalf ipekRef) ((busyState 1).snap.din ^^^ rightHalf ipekRef) = none ∧
    (cipherSenc oneCall (leftHalf 0) (0 ^^^ rightHalf 0) = some 1 ∧
      cipherSenc oneCall (leftHalf (0 ^^^ krm)) (0 ^^^ rightHalf (0 ^^^ krm)) = none) ∧
    ((busyState 1).cfg.cipher = .des ∧ (busyState 1).snap.kin = 0x6AC292FAA1315B4D858AB3A3D7D5933A ∧
      (busyState 1).snap.din = 0x9876543210E00001) :=
  ⟨⟨_, _, rfl, rfl⟩, by decide +kernel, by decide +kernel, by decide⟩

theorem witness_TheMaskSwapsTheHalves :
    ∃ c key d r r', (advance c key d).result = .ok r ∧ (advance c (key ^^^ krm) d).result = .ok r' :=
  ⟨.des, 0, 0, _, _, rfl, rfl⟩

theorem witness_DeriveIpekCompletesWithTheIpek :
    (∃ x y, cipherTenc .des bdkRef (slice (clearRange (busyState 2).snap.ksn 59 80) 0 64) = some x ∧
      cipherTenc .des (bdkRef ^^^ 0xC0C0C0C000000000C0C0C0C000000000)
        (slice (clearRange (busyState 2).snap.ksn 59 80) 0 64) = some y) ∧
    cipherTenc (.table [] []) bdkRef (ipekBlock (busyState 2).snap.ksn) = none ∧
    (cipherTenc oneCall 0 (ipekBlock 0) = some 1 ∧ cipherTenc oneCall (0 ^^^ krm) (ipekBlock 0) = none) ∧
    ((busyState 2).cfg.cipher = .des ∧ (busyState 2).snap.bdk = 0x0123456789ABCDEFFEDCBA9876543210 ∧
      (busyState 2).snap.ksn = 0xFFFF9876543210E00001) :=
  ⟨⟨_, _, rfl, rfl⟩, by decide +kernel, by decide +kernel, by decide⟩

theorem witness_TheIpekIgnoresTheCounter : AgreeOn (· < 59) (0xFFFF9876543210E00001 : Ksn) 0xFFFF9876543210FFFFFF ∧ 63 < 64 := by
  refine ⟨fun j hj => ?_, by decide⟩
  revert j
  decide +kernel

theorem witness_DeriveSessionCompletesWithTheSessionKey :
    (∃ k n, (deriveSession .des ipekRef 0xFFFF9876543210E00000).result = .ok (k, n)) ∧
    (deriveSession (.table [] []) ipekRef 0xFFFF9876543210E00001).result = .error .cipherFailure ∧
    (∃ s : State, s.cfg.cipher = .des ∧ s.snap.kin = 0x6AC292FAA1315B4D858AB3A3D7D5933A ∧
      s.snap.ksn = 0xFFFF9876543210E00003) :=
  ⟨⟨_, _, rfl⟩, by decide +kernel, ⟨(loaded 0 0xFFFF9876543210E00003 ipekRef 0).withFetchWord 32 3, rfl, rfl, rfl⟩⟩

/-- A cipher under which every SENC call the all-ones counter makes succeeds is the default one. -/
theorem witness_OneRoundForEachSetCounterBit :
    (∃ k n, (deriveSession .des ipekRef 0xFFFF9876543210E00000).result = .ok (k, n)) ∧
    counterOf 0xFFFF9876543210E00000 = 0 ∧ counterOf 0xFFFF9876543210FFFFFF = BitVec.allOnes 21 ∧
    (∃ k n, (deriveSession .des ipekRef 0xFFFF9876543210FFFFFF).result = .ok (k, n)) :=
  ⟨⟨_, _, rfl⟩, by decide, by decide, ⟨_, _, rfl⟩⟩

theorem witness_TheSessionKeyIgnoresTheFirstBits :
    AgreeOn (16 ≤ ·) (0xFFFF9876543210E00003 : Ksn) 0x12349876543210E00003 := by
  intro j hj
  rcases Nat.lt_or_ge j 80 with h | h
  · revert j
    decide +kernel
  · simp [bitAt, BitVec.getMsbD_of_ge, h]

theorem witness_ApplyMaskCompletesWithTheMaskedKey : (6 ≤ (7 : BitVec 3).toNat ∧ (busyState 0x74).seq = .busy ∧
      (busyState 0x74).snap.cmd = (0 : BitVec 25) ++ (7 : BitVec 3) ++ (4 : BitVec 4)) ∧
    ∃ s : State, s.snap.kin = 0x042666B49184CFA368DE9628D0397BC9 ∧
      s.cfg.masks.pinRequest = 0x00000000000000FF00000000000000FF :=
  ⟨by decide, (loaded 0 0 0x042666B49184CFA368DE9628D0397BC9 0).withFetchWord 32 4, rfl, rfl⟩

theorem witness_ApplyMaskTwiceGivesTheKeyBack : ∃ t, exec (.applyMask .dataResponse) (busyState 0x54) = .next t := ⟨_, rfl⟩

theorem witness_TwoCommandsCheckTheLengths :
    (((0x00500081 : Word).extractLsb' 0 16).toNat ≠ 128 ∧ ((0x0050007F : Word).extractLsb' 0 16).toNat ≠ 128) ∧
    (((0x004F0080 : Word).extractLsb' 0 16).toNat = 128 ∧ ((0x004F0080 : Word).extractLsb' 16 16).toNat < 80) ∧
    (((0x00510080 : Word).extractLsb' 0 16).toNat = 128 ∧ 80 < ((0x00510080 : Word).extractLsb' 16 16).toNat) ∧
    (LengthsAccepted .reject 0x00500080 ∧ LengthsAccepted .accept 0x00510080) := by
  unfold LengthsAccepted
  decide

theorem witness_ComputeKeyCompletesWithTheMaskedKey :
    (6 ≤ (6 : BitVec 3).toNat ∧ (busyState 0x65).seq = .busy ∧
      (busyState 0x65).snap.cmd = (0 : BitVec 25) ++ (6 : BitVec 3) ++ (5 : BitVec 4)) ∧
    (LengthsAccepted exampleConfig.ksnOverlength (busyState 5).snap.len ∧
      ¬ LengthsAccepted exampleConfig.ksnOverlength 0x00500081 ∧ ¬ LengthsAccepted exampleConfig.ksnOverlength 0x004F0080) ∧
    (∃ ipek k n, (deriveIpek .des bdkRef 0xFFFF9876543210E00000).result = .ok ipek ∧
      (deriveSession .des ipek 0xFFFF9876543210E00000).result = .ok (k, n)) ∧
    (deriveIpek (.table [] []) bdkRef 0).result = .error .cipherFailure ∧
    (∃ ipek, (deriveIpek (.table [] [⟨0, 0, 1⟩, ⟨krm, 0, 1⟩]) 0 1).result = .ok ipek ∧
      (deriveSession (.table [] [⟨0, 0, 1⟩, ⟨krm, 0, 1⟩]) ipek 1).result = .error .cipherFailure) ∧
    ((busyState 5).cfg.cipher = .des ∧ (busyState 5).cfg.masks.pinRequest = 0x00000000000000FF00000000000000FF ∧
      (busyState 5).snap.len = 0x00500080 ∧ (busyState 5).snap.bdk = 0x0123456789ABCDEFFEDCBA9876543210 ∧
      (busyState 5).snap.ksn = 0xFFFF9876543210E00001) := by
  refine ⟨by decide, by unfold LengthsAccepted; decide, ⟨_, _, _, rfl, rfl⟩, by decide +kernel,
    ⟨0x00000000000000010000000000000001, by decide +kernel, by decide +kernel⟩, by decide⟩

theorem witness_ComputeKeyIsTheSequenceOfThree :
    ∃ t, LengthsAccepted (busyState 5).cfg.ksnOverlength (busyState 5).snap.len ∧
      exec (.computeKey .pinRequest) (busyState 5) = .next t ∧ t.err = 0 :=
  ⟨_, by unfold LengthsAccepted; decide, rfl, by decide +kernel⟩

theorem witness_ComputeDataKeyVariantCompletesWithTheTwoParts :
    ((busyState 0x16).seq = .busy ∧ (busyState 0x16).snap.cmd.extractLsb' 0 4 = 6 ∧ (busyState 0x16).snap.cmd ≠ 0x00000006) ∧
    (LengthsAccepted exampleConfig.ksnOverlength (busyState 6).snap.len ∧
      ¬ LengthsAccepted .reject 0x00510080 ∧ ¬ LengthsAccepted .accept 0x0050007F) ∧
    (∃ dk n x y, (computeKey exampleConfig bdkRef 0xFFFF9876543210E00000 .dataRequest).result = .ok (dk, n) ∧
      cipherTenc exampleConfig.cipher dk (slice dk 0 64) = some x ∧ cipherTenc exampleConfig.cipher dk (slice dk 64 128) = some y) ∧
    (computeKey failingConfig 0 0 .dataRequest).result = .error .cipherFailure ∧
    (∃ dk n, (computeKey { exampleConfig with cipher := .table [] [⟨0, 0, 1⟩, ⟨krm, 0, 1⟩] } 0 0 .dataRequest).result =
        .ok (dk, n) ∧
      cipherTenc (.table [] [⟨0, 0, 1⟩, ⟨krm, 0, 1⟩]) dk (leftHalf dk) = none) ∧
    ((busyState 6).cfg.cipher = .des ∧ (busyState 6).cfg.masks.dataRequest = 0x0000000000FF00000000000000FF0000 ∧
      (busyState 6).snap.len = 0x00500080 ∧ (busyState 6).snap.bdk = 0x0123456789ABCDEFFEDCBA9876543210 ∧
      (busyState 6).snap.ksn = 0xFFFF9876543210E00001) :=
  ⟨by decide, by unfold LengthsAccepted; decide, ⟨_, _, _, _, rfl, rfl, rfl⟩, by decide +kernel,
    ⟨0x0000000000FF00010000000000FF0001, 0, by decide +kernel, by decide +kernel⟩, by decide⟩

theorem witness_RoundsAreTheCommandsRounds :
    (∃ t, exec .advance (busyState 1) = .next t ∧ t.err = 0) ∧
    (∃ t, exec .advance { busyState 1 with cfg := failingConfig } = .next t ∧ t.err ≠ 0) :=
  ⟨⟨_, rfl, by decide +kernel⟩, ⟨_, rfl, by decide +kernel⟩⟩

theorem witness_EachCommandMakesItsCipherCalls : ∃ kn, (runOf (.applyMask .pinRequest) exampleConfig (busyState 4).snap).result = .ok kn ∧
    (∃ kn', (runOf .deriveSession exampleConfig (loaded 0 0 ipekRef 0 |>.withFetchWord 32 3).snap).result = .ok kn') :=
  ⟨_, rfl, _, rfl⟩

theorem witness_AFailingCallEndsTheCommand :
    ({ busyState 1 with cfg := failingConfig } : State).seq = .busy ∧
    (commandRun failingConfig (busyState 1).snap).result = .error .cipherFailure ∧ exampleConfig.cipher = .des := by
  decide +kernel

theorem witness_LengthMismatchNeverHappens :
    (runOf .deriveSession failingConfig (busyState 3).snap).result = .error .cipherFailure := by decide +kernel

theorem witness_TheFirstErrorWins :
    (busyState 5).seq = .busy ∧ decode (busyState 0x80).snap.cmd = .error .reservedBits ∧
    decode (busyState 5).snap.cmd = .ok (.computeKey .pinRequest) ∧ decode (busyState 6).snap.cmd = .ok .computeDataKeyVariant ∧
    decode (busyState 1).snap.cmd = .ok .advance ∧ decode (busyState 0x44).snap.cmd = .ok (.applyMask .dataRequest) := by decide

theorem witness_SliceSetAndClearBitByBit :
    (59 ≤ 80 ∧ 80 ≤ 80 ∧ 20 < 80 - 59) ∧ (79 < 80 ∧ bitAt (1 : Ksn) 79 = true) := by decide

theorem witness_BytesArePackedMostSignificantFirst : 80 % 8 = 0 ∧ 9 < 80 / 8 ∧ 7 < 8 := by decide

theorem witness_APermutationTakesItsTablesBits : tableIP[63]? = some 7 ∧ tablePC2[47]? = some 32 := by decide

theorem witness_TheDefaultCipherIgnoresParity :
    AgreeOn (· % 8 ≠ 7) (0x133457799BBCDFF1 : Block) 0x123556789ABDDEF0 ∧ AgreeOn (· % 8 ≠ 7) (0 : Key) 1 := by
  constructor
  · intro j hj
    rcases Nat.lt_or_ge j 64 with h | h
    · revert hj
      revert h
      revert j
      decide +kernel
    · simp [bitAt, BitVec.getMsbD_of_ge, h]
  · intro j hj
    rcases Nat.lt_or_ge j 128 with h | h
    · revert hj
      revert h
      revert j
      decide +kernel
    · simp [bitAt, BitVec.getMsbD_of_ge, h]

theorem witness_EqualHalvesGiveSingleDes :
    leftHalf 0x133457799BBCDFF1133457799BBCDFF1 = rightHalf 0x133457799BBCDFF1133457799BBCDFF1 := by decide

theorem witness_ApplyMaskTouchesNoDerivationState :
    usageMask { exampleMasks with macRequest := 0 } .macRequest = 0 ∧
    usageMask { exampleMasks with macRequest := 0, macResponse := 0 } .macRequest =
      usageMask { exampleMasks with macRequest := 0, macResponse := 0 } .macResponse ∧
    decode (busyState 0x54).snap.cmd = .ok (.applyMask .dataResponse) := by decide

theorem witness_HostLinesDoTheirAccess :
    let host := fun (p : List HostLine) => ({ program := p, pc := 0, values := [(7, 1)] } : HostAgent)
    ((host [.write .ctrl 1]).program[0]? = some (.write .ctrl 1)) ∧ ((host [.read .status 7]).program[0]? = some (.read .status 7)) ∧
    ((host [.label 1]).program[0]? = some (.label 1)) ∧
    ((host [.branch 7 31 31 1 1]).program[0]? = some (.branch 7 31 31 1 1) ∧ 31 ≤ 31 ∧
      lookupValue 7 (host []).values = some 1 ∧ (1 : Word).toNat / 2 ^ 31 % 2 ^ (31 + 1 - 31) ≠ 1) ∧
    ((host [.branch 7 0 0 1 1, .label 1]).program[1]? = some (.label 1) ∧ (1 : Word).toNat / 2 ^ 0 % 2 ^ (0 + 1 - 0) = 1 ∧
      (host [.branch 7 0 0 1 1, .label 1]).program[0]? ≠ some (.label 1)) := by decide

end Sys2Proof.Tests
end

/-! One turn of the schedule (spec/00_scope.md R17; log 1). -/

section
namespace Sys2Proof.Machine

theorem step_of_turns_cons {s : State} {t : Turn} {ts : List Turn} (h : s.turns = t :: ts) :
    step s = takeTurn t { s with turns := ts } := by
  simp [step, h]

theorem step_of_turns_nil {s : State} (h : s.turns = []) : step s = defaultTurn s := by
  simp [step, h]

theorem completionTurn_of_idle {s : State} (h : s.seq = .idle) : completionTurn s = .next s := by
  simp [completionTurn, h]

theorem defaultTurn_of_idle {s : State} (h : s.seq = .idle) : defaultTurn s = hostTurn s := by
  simp [defaultTurn, h]

theorem hostTurn_past_end {s : State} (h : s.host.program.length ≤ s.host.pc) : hostTurn s = .next s := by
  simp [hostTurn, List.getElem?_eq_none h]

/-- Settles O9: one lemma of the step for each kind of turn, and the two of `tick`. -/
theorem stepTakesTheScheduledTurn : Obligations.StepTakesTheScheduledTurn := by
  refine ⟨fun _ _ _ hts => step_of_turns_cons hts, fun _ _ hts => step_of_turns_cons hts,
    fun _ _ hts => step_of_turns_cons hts, fun _ hseq => tick_of_busy hseq, fun _ hseq => tick_of_idle hseq,
    fun s ts hts hseq => ?complete, fun s hts hseq hpc => ?wait⟩
  case complete =>
    calc step s = completionTurn { s with turns := ts } := step_of_turns_cons hts
      _ = .next { s with turns := ts } := completionTurn_of_idle hseq
  case wait =>
    calc step s = defaultTurn s := step_of_turns_nil hts
      _ = hostTurn s := defaultTurn_of_idle hseq
      _ = .next s := hostTurn_past_end hpc

end Sys2Proof.Machine
end

/-! Every collaborator is a table (spec/00_scope.md R5, spec/41_datapath_primitives.md R129; log 4): the keys and blocks
are finitely many, so a function that may fail is the list of its answers. -/

section
namespace Sys2Proof.Machine

section rows
variable {α γ ρ : Type} [Fintype α]

/-- A function that may fail, listed: a row for each argument it answers. -/
noncomputable def rowsOf (row : α → γ → ρ) (f : α → Option γ) : List ρ :=
  Finset.univ.toList.filterMap fun a => (f a).map (row a)

theorem mem_rowsOf {row : α → γ → ρ} {f : α → Option γ} {r : ρ} :
    r ∈ rowsOf row f ↔ ∃ a c, f a = some c ∧ row a c = r := by
  simp [rowsOf]

/-- Looking up the rows of argument a finds what the function answers to a. -/
theorem find?_rowsOf {row : α → γ → ρ} {f : α → Option γ} {a : α} {p : ρ → Bool}
    (hp : ∀ a' c, p (row a' c) = true ↔ a' = a) : (rowsOf row f).find? p = (f a).map (row a) := by
  have answered : ∀ r ∈ rowsOf row f, p r = true → (f a).map (row a) = some r := by
    intro r hr hpr
    obtain ⟨a', c, hfa, rfl⟩ := mem_rowsOf.1 hr
    obtain rfl := (hp a' c).1 hpr
    simp [hfa]
  cases hfind : (rowsOf row f).find? p with
  | some r => exact (answered r (List.mem_of_find?_eq_some hfind) (List.find?_some hfind)).symm
  | none =>
    cases hfa : f a with
    | none => rfl
    | some c =>
      have hmem : row a c ∈ rowsOf row f := mem_rowsOf.2 ⟨a, c, hfa, rfl⟩
      exact absurd ((hp a c).2 rfl) (List.find?_eq_none.1 hfind _ hmem)

end rows

/-- The SENC rows of a function of R129's type. -/
noncomputable def sencRows (f : Block → Block → Option Block) : List SencRow :=
  rowsOf (fun (kb : Block × Block) c => { key := kb.1, block := kb.2, result := c }) fun kb => f kb.1 kb.2

/-- The TENC rows of a function of R129's type. -/
noncomputable def tencRows (g : Key → Block → Option Block) : List TencRow :=
  rowsOf (fun (kb : Key × Block) c => { key := kb.1, block := kb.2, result := c }) fun kb => g kb.1 kb.2

theorem cipherSenc_sencRows (f : Block → Block → Option Block) (rows : List TencRow) (k b : Block) :
    cipherSenc (.table (sencRows f) rows) k b = f k b := by
  rw [cipherSenc, sencRows, find?_rowsOf (a := (k, b)) (by simp [Prod.ext_iff])]
  simp [Function.comp_def]

theorem cipherTenc_tencRows (g : Key → Block → Option Block) (rows : List SencRow) (k : Key) (b : Block) :
    cipherTenc (.table rows (tencRows g)) k b = g k b := by
  rw [cipherTenc, tencRows, find?_rowsOf (a := (k, b)) (by simp [Prod.ext_iff])]
  simp [Function.comp_def]

/-- Settles O57, by the two tables of all the answers the functions give. -/
theorem everyCipherIsATable : Obligations.EveryCipherIsATable := fun f g =>
  ⟨.table (sencRows f) (tencRows g), cipherSenc_sencRows f _, cipherTenc_tencRows g _⟩

end Sys2Proof.Machine
end

/-! What the machine's operations leave of the build, of KOUT and of a running command (spec/10_state.md R27, R33, R35):
the facts about one step that no register write and no host line can break. -/

section
namespace Sys2Proof.Machine

@[simp] theorem tick_cfg (s : State) : (tick s).cfg = s.cfg := by
  unfold tick; split <;> rfl

@[simp] theorem tick_kout (s : State) : (tick s).kout = s.kout := by
  unfold tick; split <;> rfl

section complete
variable (s : State) (r : Except EngineError (Key × Nat))

@[simp] theorem complete_cfg : (complete s r).cfg = s.cfg := by
  obtain ⟨k, n, -, h⟩ | ⟨e, -, h⟩ := complete_cases s r <;> simp [h]

@[simp] theorem complete_seq : (complete s r).seq = .idle := by
  obtain ⟨k, n, -, h⟩ | ⟨e, -, h⟩ := complete_cases s r <;> simp [h]

@[simp] theorem complete_done : (complete s r).done = true := by
  obtain ⟨k, n, -, h⟩ | ⟨e, -, h⟩ := complete_cases s r <;> simp [h]

/-- A completion writes KOUT from the outcome alone. -/
theorem complete_kout_congr (s' : State) : (complete s r).kout = (complete s' r).kout := by
  cases r <;> rfl

end complete

theorem completionTurn_of_busy {s : State} (h : s.seq = .busy) :
    completionTurn s = .next (complete s (commandRun s.cfg s.snap).result) := by
  simp [completionTurn, h, completeCommand_eq]

theorem defaultTurn_of_busy {s : State} (h : s.seq = .busy) :
    defaultTurn s = .next (complete s (commandRun s.cfg s.snap).result) := by
  simp [defaultTurn, h, completeCommand_eq]

section hostTurn
variable {s t : State} (h : hostTurn s = .next t)
include h

theorem hostTurn_cfg : t.cfg = s.cfg := by
  obtain rfl | ⟨r, w, pc, rfl⟩ | ⟨r, name, pc, rfl⟩ | ⟨pc, rfl⟩ := hostTurn_cases h <;> simp

theorem hostTurn_kout : t.kout = s.kout := by
  obtain rfl | ⟨r, w, pc, rfl⟩ | ⟨r, name, pc, rfl⟩ | ⟨pc, rfl⟩ := hostTurn_cases h <;> simp

end hostTurn

/-- Settles O6: each thing a step can do keeps the build. -/
theorem everyStepKeepsTheBuild : Obligations.EveryStepKeepsTheBuild := by
  intro s t h
  obtain hhost | ⟨a, rfl⟩ | rfl | ⟨-, rfl⟩ | ⟨-, rfl⟩ | rfl := step_cases h
  · exact (hostTurn_cfg hhost).trans (popTurn_cfg s)
  all_goals simp

/-! KOUT (R27, R300). -/

/-- A scheduled turn other than the engine's completion and a reset leaves KOUT as it was. -/
theorem takeTurn_kout {u : Turn} {s t : State} (h : takeTurn u s = .next t) :
    t.kout = s.kout ∨ (s.seq = .busy ∧ t = complete s (commandRun s.cfg s.snap).result) ∨
      (u = .reset ∧ t = resetEngine s) := by
  cases u with
  | host => exact .inl (hostTurn_kout h)
  | access a => cases h; simp
  | tick => cases h; simp
  | complete =>
    cases hseq : s.seq with
    | idle => cases (completionTurn_of_idle hseq).symm.trans h; simp
    | busy => cases (completionTurn_of_busy hseq).symm.trans h; simp
  | reset => cases h; simp

/-- With no turn scheduled, only a completion changes KOUT. -/
theorem defaultTurn_kout {s t : State} (h : defaultTurn s = .next t) :
    t.kout = s.kout ∨ (s.seq = .busy ∧ t = complete s (commandRun s.cfg s.snap).result) := by
  cases hseq : s.seq with
  | idle => exact .inl (hostTurn_kout ((defaultTurn_of_idle hseq).symm.trans h))
  | busy => cases (defaultTurn_of_busy hseq).symm.trans h; simp

/-- Settles O17, turn by turn: what is not a completion or a reset keeps KOUT. -/
theorem koutChangesOnlyAtCompletion : Obligations.KoutChangesOnlyAtCompletion := by
  intro s t h hne
  cases hts : s.turns with
  | nil =>
    obtain hk | ⟨hseq, rfl⟩ := defaultTurn_kout ((step_of_turns_nil hts).symm.trans h)
    · exact absurd hk hne
    · exact .inl ⟨hseq, rfl, by simp, by simp⟩
  | cons u us =>
    obtain hk | ⟨hseq, rfl⟩ | ⟨rfl, rfl⟩ := takeTurn_kout ((step_of_turns_cons hts).symm.trans h)
    · exact absurd hk hne
    · exact .inl ⟨hseq, complete_kout_congr _ _ _, by simp, by simp⟩
    · exact .inr ⟨by simp, by simp⟩

/-! The working values on the course of the snapshot's work (R35, R102; log 6). -/

/-- A state in IDLE has no work to follow. -/
theorem workFollowsSnapshot_of_idle {s : State} (h : s.seq = .idle) : WorkFollowsSnapshot s := by
  simp [WorkFollowsSnapshot, h]

/-- An acceptance starts the course of the new snapshot. -/
theorem accept_workFollowsSnapshot (s : State) (w : Word) : WorkFollowsSnapshot (accept s w) :=
  fun _ => ⟨0, rfl⟩

/-- The course is a matter of the build, the sequencer, the snapshot and the working values. -/
theorem WorkFollowsSnapshot.congr {s t : State} (hs : WorkFollowsSnapshot s) (hcfg : t.cfg = s.cfg)
    (hseq : t.seq = s.seq) (hsnap : t.snap = s.snap) (hwork : t.work = s.work) : WorkFollowsSnapshot t := by
  unfold WorkFollowsSnapshot
  rw [hcfg, hseq, hsnap, hwork]
  exact hs

theorem writeReg_workFollowsSnapshot {s : State} (hs : WorkFollowsSnapshot s) (r : RegWord) (w : Word) :
    WorkFollowsSnapshot (writeReg s r w) := by
  obtain ⟨-, -, h⟩ | ⟨-, -, h⟩ | ⟨-, h⟩ | ⟨-, h⟩ | ⟨-, h⟩ |
      ⟨_, -, h⟩ | ⟨_, -, h⟩ | ⟨_, -, h⟩ | ⟨_, -, h⟩ | ⟨_, -, h⟩ := writeReg_cases s r w <;> rw [h]
  · exact accept_workFollowsSnapshot s w
  all_goals exact hs.congr rfl rfl rfl rfl

theorem performAccess_workFollowsSnapshot {s : State} (hs : WorkFollowsSnapshot s) (a : Access) :
    WorkFollowsSnapshot (performAccess s a) := by
  obtain ⟨-, h⟩ | ⟨r, -, -, h⟩ | ⟨r, w, -, -, h⟩ := performAccess_cases s a <;> rw [h]
  · exact hs.congr rfl rfl rfl rfl
  · exact hs.congr rfl rfl rfl rfl
  · exact (writeReg_workFollowsSnapshot hs r w).congr rfl rfl rfl rfl

theorem hostTurn_workFollowsSnapshot {s t : State} (hs : WorkFollowsSnapshot s) (h : hostTurn s = .next t) :
    WorkFollowsSnapshot t := by
  obtain rfl | ⟨r, w, pc, rfl⟩ | ⟨r, name, pc, rfl⟩ | ⟨pc, rfl⟩ := hostTurn_cases h
  · exact hs
  · exact (writeReg_workFollowsSnapshot hs r w).congr rfl rfl rfl rfl
  · exact hs.congr rfl rfl rfl rfl
  · exact hs.congr rfl rfl rfl rfl

/-- A stage of work goes one stage further on the course. -/
theorem tick_workFollowsSnapshot {s : State} (hs : WorkFollowsSnapshot s) : WorkFollowsSnapshot (tick s) := by
  cases hseq : s.seq with
  | idle => rwa [tick_of_idle hseq]
  | busy =>
    obtain ⟨n, hn⟩ := hs hseq
    rw [tick_of_busy hseq]
    exact fun _ => ⟨n + 1, congrArg (workStep s.cfg s.snap) hn⟩

/-- Settles O4: an acceptance starts the course, a stage of work goes on along it, a completion and a reset end it, and
nothing else touches it. -/
theorem everyStepKeepsTheWorkOnItsCourse : Obligations.EveryStepKeepsTheWorkOnItsCourse := by
  intro s t hs h
  have hpop : WorkFollowsSnapshot (popTurn s) := hs.congr rfl rfl rfl rfl
  obtain hhost | ⟨a, rfl⟩ | rfl | ⟨-, rfl⟩ | ⟨-, rfl⟩ | rfl := step_cases h
  · exact hostTurn_workFollowsSnapshot hpop hhost
  · exact performAccess_workFollowsSnapshot hpop a
  · exact tick_workFollowsSnapshot hpop
  · exact workFollowsSnapshot_of_idle (complete_seq _ _)
  · exact hpop
  · exact workFollowsSnapshot_of_idle rfl

end Sys2Proof.Machine
end

/-! The working state is invisible (spec/10_state.md R36): each operation does the same to two states that differ in their
working values alone. -/

section
namespace Sys2Proof.Machine

/-- The machine with other working values. -/
def withWork (s : State) (w : Working) : State :=
  { s with work := w }

/-- Two outcomes are one fault, or two next states that differ in their working values alone. -/
def SameButWork (o o' : Outcome) : Prop :=
  (∀ t, o = .next t → ∃ w, o' = .next (withWork t w)) ∧ (∀ f, o = .fault f → o' = .fault f)

theorem SameButWork.next {t t' : State} (h : ∃ w, t' = withWork t w) : SameButWork (.next t) (.next t') := by
  obtain ⟨w, rfl⟩ := h
  exact ⟨fun t ht => by cases ht; exact ⟨w, rfl⟩, fun f hf => by cases hf⟩

theorem SameButWork.fault (f : Fault) : SameButWork (.fault f) (.fault f) :=
  ⟨fun _ ht => by (cases ht), fun _ hf => hf⟩

section withWork
variable (s : State) (w : Working)

@[simp] theorem withWork_cfg : (withWork s w).cfg = s.cfg := rfl
@[simp] theorem withWork_seq : (withWork s w).seq = s.seq := rfl
@[simp] theorem withWork_snap : (withWork s w).snap = s.snap := rfl
@[simp] theorem withWork_host : (withWork s w).host = s.host := rfl
@[simp] theorem withWork_turns : (withWork s w).turns = s.turns := rfl

/-- Every register word reads the same whatever the working values are. -/
@[simp] theorem readReg_withWork (r : RegWord) : readReg (withWork s w) r = readReg s r := by
  cases r <;> rfl

/-- An acceptance clears the working values; every other write leaves them. -/
theorem writeReg_withWork (r : RegWord) (v : Word) : ∃ w', writeReg (withWork s w) r v = withWork (writeReg s r v) w' := by
  cases r with
  | cmd =>
    cases hseq : s.seq with
    | idle => exact ⟨Working.cleared, by simp only [writeReg, writeCmd, withWork_seq, hseq]; rfl⟩
    | busy => exact ⟨w, by simp only [writeReg, writeCmd, withWork_seq, hseq]; rfl⟩
  | _ => exact ⟨w, rfl⟩

theorem performAccess_withWork (a : Access) :
    ∃ w', performAccess (withWork s w) a = withWork (performAccess s a) w' := by
  cases hr : accessTarget s.cfg.base a with
  | none => exact ⟨w, by simp only [performAccess, withWork_cfg, hr]; rfl⟩
  | some r =>
    cases hk : a.kind with
    | read => exact ⟨w, by simp only [performAccess, withWork_cfg, hr, hk, readReg_withWork]; rfl⟩
    | write v =>
      obtain ⟨w', hw⟩ := writeReg_withWork s w r v
      exact ⟨w', by simp only [performAccess, withWork_cfg, hr, hk, hw]; rfl⟩

theorem hostBranch_withWork (name hi lo v l : Nat) :
    SameButWork (hostBranch s name hi lo v l) (hostBranch (withWork s w) name hi lo v l) := by
  simp only [hostBranch, withWork_host]
  split
  · cases lookupValue name s.host.values with
    | none => exact .fault _
    | some x =>
      dsimp only
      split
      · cases afterLabel l s.host.program with
        | none => exact .fault _
        | some pc => exact .next ⟨w, rfl⟩
      · exact .next ⟨w, rfl⟩
  · exact .fault _

theorem hostLine_withWork (line : HostLine) : SameButWork (hostLine s line) (hostLine (withWork s w) line) := by
  cases line with
  | write r v =>
    obtain ⟨w', hw⟩ := performAccess_withWork s w (lineAccess s.cfg.base r (.write v))
    exact .next ⟨w', by rw [withWork_cfg, withWork_host, hw]; rfl⟩
  | read r name =>
    obtain ⟨w', hw⟩ := performAccess_withWork s w (lineAccess s.cfg.base r .read)
    exact .next ⟨w', by rw [withWork_cfg, withWork_host, readReg_withWork, hw]; rfl⟩
  | label l => exact .next ⟨w, rfl⟩
  | branch name hi lo v l => exact hostBranch_withWork s w name hi lo v l

theorem hostTurn_withWork : SameButWork (hostTurn s) (hostTurn (withWork s w)) := by
  simp only [hostTurn, withWork_host]
  cases s.host.program[s.host.pc]? with
  | none => exact .next ⟨w, rfl⟩
  | some line => exact hostLine_withWork s w line

/-- A completion takes its outcome from the snapshot and clears the working values. -/
theorem complete_withWork (r : Except EngineError (Key × Nat)) : complete (withWork s w) r = complete s r := by
  cases r <;> rfl

theorem tick_withWork : ∃ w', tick (withWork s w) = withWork (tick s) w' := by
  cases hseq : s.seq with
  | idle => exact ⟨w, by rw [tick_of_idle hseq, tick_of_idle (s := withWork s w) hseq]⟩
  | busy => exact ⟨_, by rw [tick_of_busy hseq, tick_of_busy (s := withWork s w) hseq]; rfl⟩

theorem completionTurn_withWork : SameButWork (completionTurn s) (completionTurn (withWork s w)) := by
  cases hseq : s.seq with
  | idle =>
    rw [completionTurn_of_idle hseq, completionTurn_of_idle (s := withWork s w) hseq]
    exact .next ⟨w, rfl⟩
  | busy =>
    rw [completionTurn_of_busy hseq, completionTurn_of_busy (s := withWork s w) hseq]
    exact .next ⟨_, complete_withWork s w _⟩

theorem takeTurn_withWork (u : Turn) : SameButWork (takeTurn u s) (takeTurn u (withWork s w)) := by
  cases u with
  | host => exact hostTurn_withWork s w
  | access a => exact .next (performAccess_withWork s w a)
  | tick => exact .next (tick_withWork s w)
  | complete => exact completionTurn_withWork s w
  | reset => exact .next ⟨_, rfl⟩

theorem defaultTurn_withWork : SameButWork (defaultTurn s) (defaultTurn (withWork s w)) := by
  cases hseq : s.seq with
  | idle =>
    rw [defaultTurn_of_idle hseq, defaultTurn_of_idle (s := withWork s w) hseq]
    exact hostTurn_withWork s w
  | busy =>
    rw [defaultTurn_of_busy hseq, defaultTurn_of_busy (s := withWork s w) hseq]
    exact .next ⟨_, complete_withWork s w _⟩

theorem step_withWork : SameButWork (step s) (step (withWork s w)) := by
  cases hts : s.turns with
  | nil =>
    rw [step_of_turns_nil hts, step_of_turns_nil (s := withWork s w) hts]
    exact defaultTurn_withWork s w
  | cons u us =>
    rw [step_of_turns_cons hts, step_of_turns_cons (s := withWork s w) hts]
    exact takeTurn_withWork { s with turns := us } w u

end withWork

/-- Settles O18: no read and no turn depends on the working values. -/
theorem internalWorkIsInvisible : Obligations.InternalWorkIsInvisible := fun s w =>
  ⟨readReg_withWork s w, rfl, (step_withWork s w).1, (step_withWork s w).2⟩

end Sys2Proof.Machine
end

/-! What a host reads of STATUS, CTRL and the BDK (spec/10_state.md R23, R28 to R31). -/

section
namespace Sys2Proof.Machine

/-- Two fields side by side as a number: the upper one above the lower one. -/
theorem toNat_append_eq_add {m n : Nat} (x : BitVec m) (y : BitVec n) : (x ++ y).toNat = x.toNat * 2 ^ n + y.toNat := by
  rw [BitVec.toNat_append, ← Nat.shiftLeft_add_eq_or_of_lt y.isLt, Nat.shiftLeft_eq]

@[simp] theorem toNat_bit (b : Bool) : (bit b).toNat = b.toNat := by
  cases b <;> rfl

theorem statusWord_toNat (s : State) : (statusWord s).toNat =
    s.busy.toNat + 2 * s.done.toNat + 4 * s.ovr.toNat + 16 * s.err.toNat + 256 * s.rounds.toNat := by
  simp only [statusWord, toNat_append_eq_add, toNat_bit, BitVec.ofNat_eq_ofNat, BitVec.toNat_zero]
  omega

theorem ctrlWord_toNat (s : State) : (ctrlWord s).toNat = s.ie.toNat := by
  simp only [ctrlWord, toNat_append_eq_add, toNat_bit, BitVec.ofNat_eq_ofNat, BitVec.toNat_zero]
  omega

/-- Settles O22: the offsets by the window's map, the fields by their places in the two words. -/
theorem statusShowsItsFields : Obligations.StatusShowsItsFields := fun s =>
  ⟨⟨rfl, rfl, rfl⟩, ⟨rfl, rfl⟩, statusWord_toNat s, ctrlWord_toNat s⟩

/-- Settles O26, word by word: STATUS and CTRL are made of no operand, a BDK word reads as the constant 0, and every other
word is read from a register other than the BDK. -/
theorem theBdkIsNeverRead : Obligations.TheBdkIsNeverRead := fun _ _ r =>
  ⟨by cases r <;> rfl, fun _ => rfl⟩

end Sys2Proof.Machine
end

/-! The number of rounds of each command (spec/10_state.md R38): the iterator makes one for each bit of the counter. -/

section
namespace Sys2Proof.Machine

section rounds
variable {c : Cipher} {ksn : Ksn}

/-- Bit i of the iterator is one round where the KSN has it, and none where not. -/
theorem iterBit_rounds {it it' : Iter} {i : Nat} (h : (iterBit c ksn it i).result = .ok it') :
    it'.rounds = it.rounds + (bitAt ksn i).toNat := by
  unfold iterBit at h
  split at h
  · next hset =>
    obtain ⟨k, -, hk⟩ := Run.andThen_ok_iff.1 h
    cases hk
    simp [hset]
  · next hclear =>
    cases h
    simp [hclear]

theorem iterBits_rounds {it it' : Iter} {is : List Nat} (h : (iterBits c ksn it is).result = .ok it') :
    it'.rounds = it.rounds + is.countP (bitAt ksn) := by
  induction is generalizing it with
  | nil => cases h; rfl
  | cons i is ih =>
    obtain ⟨it₁, hi, his⟩ := Run.andThen_ok_iff.1 h
    rw [ih his, iterBit_rounds hi, List.countP_cons]
    cases bitAt ksn i <;> simp +arith

/-- Bit j of the counter is KSN bit 59 + j. -/
theorem bitAt_counterOf (ksn : Ksn) {j : Nat} (hj : j < 21) : bitAt (counterOf ksn) j = bitAt ksn (59 + j) := by
  simp only [bitAt, counterOf, slice, BitVec.getMsbD_extractLsb']
  rw [show 80 - (80 - 80 + (80 - 59) - j) = 59 + j by omega]
  simp [hj]
  omega

/-- The ones of the counter are those the iterator visits. -/
theorem popcount_counterOf (ksn : Ksn) : popcount (counterOf ksn) = counterBits.countP (bitAt ksn) := by
  rw [counterBits, List.range'_eq_map_range, List.countP_map, popcount]
  exact List.countP_congr fun j hj => by rw [bitAt_counterOf ksn (List.mem_range.1 hj)]; rfl

theorem popcount_counterOf_le (ksn : Ksn) : popcount (counterOf ksn) ≤ 21 :=
  List.countP_le_length.trans_eq List.length_range

theorem deriveSession_rounds {ipek : Key} {kn : Key × Nat} (h : (deriveSession c ipek ksn).result = .ok kn) :
    kn.2 = popcount (counterOf ksn) := by
  obtain ⟨it, hit, hkn⟩ := Run.andThen_ok_iff.1 h
  cases hkn
  rw [popcount_counterOf]
  exact (iterBits_rounds hit).trans (Nat.zero_add _)

theorem computeKey_rounds {cfg : Config} {bdk : Key} {u : Usage} {kn : Key × Nat}
    (h : (computeKey cfg bdk ksn u).result = .ok kn) : kn.2 = popcount (counterOf ksn) := by
  obtain ⟨ipek, -, h⟩ := Run.andThen_ok_iff.1 h
  obtain ⟨kn', hsession, hkn⟩ := Run.andThen_ok_iff.1 h
  have hn := deriveSession_rounds hsession
  cases hkn
  exact hn

end rounds

/-- The rounds of a command that succeeds (R38). -/
def commandRounds (i : Instr) (snap : Snapshot) : Nat :=
  match i with
  | .advance => 1
  | .deriveIpek | .applyMask _ => 0
  | .deriveSession | .computeKey _ | .computeDataKeyVariant => popcount (counterOf snap.ksn)

theorem commandRounds_le (i : Instr) (snap : Snapshot) : commandRounds i snap ≤ 21 := by
  have := popcount_counterOf_le snap.ksn
  cases i <;> simp only [commandRounds] <;> omega

theorem runOf_rounds {i : Instr} {cfg : Config} {snap : Snapshot} {kn : Key × Nat}
    (h : (runOf i cfg snap).result = .ok kn) : kn.2 = commandRounds i snap := by
  cases i with
  | advance =>
    obtain ⟨k, -, hkn⟩ := Run.andThen_ok_iff.1 h
    cases hkn; rfl
  | deriveIpek =>
    obtain ⟨k, -, hkn⟩ := Run.andThen_ok_iff.1 h
    cases hkn; rfl
  | deriveSession => exact deriveSession_rounds h
  | applyMask u => cases h; rfl
  | computeKey u =>
    obtain ⟨-, -, h⟩ := Run.andThen_ok_iff.1 h
    exact computeKey_rounds h
  | computeDataKeyVariant =>
    obtain ⟨-, -, h⟩ := Run.andThen_ok_iff.1 h
    obtain ⟨kn', hkey, h⟩ := Run.andThen_ok_iff.1 h
    obtain ⟨k, -, hkn⟩ := Run.andThen_ok_iff.1 h
    have hn := computeKey_rounds hkey
    cases hkn
    exact hn

theorem errorCode_ne_zero (e : EngineError) : errorCode e ≠ 0 := by
  cases e <;> decide

/-- ROUNDS is wide enough for every command. -/
theorem succeed_rounds_toNat {n : Nat} (hn : n ≤ 21) (s : State) (k : Key) : (succeed s k n).rounds.toNat = n := by
  simp only [succeed_rounds, BitVec.toNat_ofNat]
  omega

/-- ROUNDS after a command: on success the command's rounds, 0 on any error. -/
theorem exec_rounds (i : Instr) (s : State) : ∃ t, exec i s = .next t ∧ t.rounds.toNat ≤ 21 ∧
    (t.err ≠ 0 → t.rounds = 0) ∧ (t.err = 0 → t.rounds.toNat = commandRounds i s.snap) := by
  refine ⟨_, exec_eq_complete i s, ?_⟩
  obtain ⟨k, n, hr, ht⟩ | ⟨e, -, ht⟩ := complete_cases s (runOf i s.cfg s.snap).result <;> rw [ht]
  · have hn : n = commandRounds i s.snap := runOf_rounds hr
    have hle : n ≤ 21 := hn ▸ commandRounds_le i s.snap
    rw [succeed_rounds_toNat hle]
    exact ⟨hle, by simp, fun _ => hn⟩
  · exact ⟨Nat.zero_le _, fun _ => rfl, fun herr => absurd herr (errorCode_ne_zero e)⟩

/-- Settles O46: the rounds of a completion are those of the command's run. -/
theorem roundsAreTheCommandsRounds : Obligations.RoundsAreTheCommandsRounds := by
  intro i s
  obtain ⟨t, ht, hle, hzero, hrounds⟩ := exec_rounds i s
  exact ⟨t, ht, hle, hzero, fun herr => (hrounds herr).trans (by cases i <;> rfl)⟩

end Sys2Proof.Machine
end

/-! The stage-by-stage work against the one-step evaluation (spec/10_state.md R35, R36; log 6). Each lemma takes a stretch
of stages with the piece of the evaluation it does, given that the rest of the work does the rest of the evaluation. -/

section
namespace Sys2Proof.Machine

theorem Run.andThen_assoc {α β γ : Type} (x : Run α) (f : α → Run β) (g : β → Run γ) :
    (x.andThen f).andThen g = x.andThen fun a => (f a).andThen g := by
  cases hx : x.result with
  | error e => simp [Run.andThen, hx]
  | ok a =>
    cases hf : (f a).result with
    | error e => simp [Run.andThen, hx, hf]
    | ok b => simp [Run.andThen, hx, hf]

theorem Run.andThen_pure {α : Type} (x : Run α) : x.andThen Run.pure = x := by
  obtain ⟨calls, result⟩ := x
  cases result <;> simp [Run.andThen]

@[simp] theorem leftHalf_append (x y : Block) : leftHalf (x ++ y) = x :=
  BitVec.extractLsb'_append_eq_left

/-- What the iterator carries, in the working values. -/
def iterOf (w : Working) : Iter where
  accumulator := w.accumulator
  transactionKey := w.transactionKey
  rounds := w.rounds

section round
variable (snap : Snapshot) {i : Instr} (w : Working)

/-- A round's first stage keeps the key its second stage reads. -/
theorem roundKey_after_roundRight (i : Instr) (kl kr r2 : Block) (st : Stage) :
    roundKey snap i { w with keyLeft := kl, keyRight := kr, r2 := r2, stage := st } = roundKey snap i w := by
  cases i <;> rfl

/-- A round's first stage keeps the data its second stage reads. -/
theorem roundData_after_roundRight (i : Instr) (kl kr r2 : Block) (st : Stage) :
    roundData snap i { w with keyLeft := kl, keyRight := kr, r2 := r2, stage := st } = roundData snap i w := by
  cases i <;> rfl

variable (hi : i ≠ .advance)
include hi

theorem roundKey_of_ne_advance : roundKey snap i w = w.transactionKey := by
  cases i with
  | advance => exact absurd rfl hi
  | _ => rfl

theorem roundData_of_ne_advance : roundData snap i w = window w.accumulator := by
  cases i with
  | advance => exact absurd rfl hi
  | _ => rfl

theorem afterRound_of_ne_advance : afterRound i w = nextBit i { w with transactionKey := w.r1 ++ w.r2 } := by
  cases i with
  | advance => exact absurd rfl hi
  | _ => rfl

end round

/-- The commands that check the lengths and derive a key for a usage (spec/45_key_masker.md R205). -/
def ComputesUsageKey (i : Instr) : Prop :=
  (∃ u, i = .computeKey u) ∨ i = .computeDataKeyVariant

section computesUsageKey
variable {i : Instr} (hi : ComputesUsageKey i)
include hi

theorem ComputesUsageKey.ne_advance : i ≠ .advance := by
  obtain ⟨u, rfl⟩ | rfl := hi <;> simp

theorem beginWork_of_computesUsageKey (cfg : Config) (snap : Snapshot) (w : Working) :
    beginWork cfg snap i w = beginWork cfg snap .computeDataKeyVariant w := by
  obtain ⟨u, rfl⟩ | rfl := hi <;> rfl

theorem afterIpek_of_computesUsageKey (snap : Snapshot) (w : Working) :
    afterIpek snap i w = beginLoop snap w.ipek w := by
  obtain ⟨u, rfl⟩ | rfl := hi <;> rfl

theorem afterLoop_of_computesUsageKey : afterLoop i = .mask := by
  obtain ⟨u, rfl⟩ | rfl := hi <;> rfl

end computesUsageKey

/-- The work from w has come to outcome r after n stages. -/
def WorksTo (cfg : Config) (snap : Snapshot) (n : Nat) (w : Working) (r : Except EngineError (Key × Nat)) : Prop :=
  workOutcome snap ((workStep cfg snap)^[n] w) = some r

theorem workAfter_eq_iterate (cfg : Config) (snap : Snapshot) (n : Nat) :
    workAfter cfg snap n = (workStep cfg snap)^[n] Working.cleared := by
  induction n with
  | zero => rfl
  | succ n ih => rw [workAfter, ih, Function.iterate_succ_apply']

section decoded
variable {cfg : Config} {snap : Snapshot} {i : Instr} {n m : Nat} {w w₁ : Working} {r : Except EngineError (Key × Nat)}

/-! Outcomes: when there is one, and that it stays. -/

theorem worksTo_finished {k : Key} {rounds : Nat} (hd : decode snap.cmd = .ok i) (hs : w.stage = .finished)
    (hkey : workKey snap i w = k) (hrounds : w.rounds = rounds) : WorksTo cfg snap 0 w (.ok (k, rounds)) := by
  simp [WorksTo, workOutcome, hs, hd, hkey, hrounds]

theorem worksTo_failed {e : EngineError} (hs : w.stage = .failed e) : WorksTo cfg snap 0 w (.error e) := by
  simp [WorksTo, workOutcome, hs]

theorem workStage_of_mask (hs : w.stage = .mask) : workStage cfg snap i w = workMask cfg i w := by
  simp only [workStage, hs]

/-- Work that has an outcome is finished or has failed. -/
theorem stage_of_workOutcome (h : workOutcome snap w = some r) : w.stage = .finished ∨ ∃ e, w.stage = .failed e := by
  unfold workOutcome at h
  split at h
  · next hs _ => exact .inl hs
  · next e hs => exact .inr ⟨e, hs⟩
  · cases h

variable (hd : decode snap.cmd = .ok i)
include hd

theorem workStep_of_decode (w : Working) : workStep cfg snap w = workStage cfg snap i w := by
  simp only [workStep, hd]

/-- Work that has an outcome stands still. -/
theorem workStep_of_workOutcome (h : workOutcome snap w = some r) : workStep cfg snap w = w := by
  rw [workStep_of_decode hd]
  obtain hs | ⟨e, hs⟩ := stage_of_workOutcome h <;> simp only [workStage, hs]

theorem WorksTo.mono (h : WorksTo cfg snap n w r) (hnm : n ≤ m) : WorksTo cfg snap m w r := by
  induction m, hnm using Nat.le_induction with
  | base => exact h
  | succ m _ ih =>
    unfold WorksTo
    rw [Function.iterate_succ_apply', workStep_of_workOutcome hd ih]
    exact ih

/-- The work comes to one outcome only. -/
theorem WorksTo.unique {r' : Except EngineError (Key × Nat)} (h : WorksTo cfg snap n w r) (h' : WorksTo cfg snap m w r') :
    r' = r :=
  Option.some.inj ((h'.mono hd (Nat.le_max_right n m)).symm.trans (h.mono hd (Nat.le_max_left n m)))

/-! One stage. -/

theorem worksTo_stage (hw : workStage cfg snap i w = w₁) (h : WorksTo cfg snap n w₁ r) : WorksTo cfg snap (n + 1) w r := by
  rw [← hw, ← workStep_of_decode hd] at h
  exact h

/-- A stage that makes a cipher call: the work goes on with the answer where the evaluation does, and both fail where the
call fails. -/
theorem worksTo_call {x : Run Block} {g : Block → Working} {f : Block → Run (Key × Nat)}
    (hw : workStage cfg snap i w = workAnswer w x g) (h : ∀ b, WorksTo cfg snap n (g b) (f b).result) :
    WorksTo cfg snap (n + 1) w (x.andThen f).result := by
  refine worksTo_stage hd hw ?_
  cases hx : x.result with
  | ok b =>
    simp only [workAnswer, hx, Run.andThen_of_ok hx]
    exact h b
  | error e =>
    simp only [workAnswer, hx, Run.andThen_of_error hx]
    exact (worksTo_failed rfl).mono hd (Nat.zero_le n)

/-! Stretches of stages. -/

/-- The two stages of the IPEK. -/
theorem worksTo_ipek {f : Key → Run (Key × Nat)} (hs : w.stage = .ipekLeft)
    (h : ∀ w', w'.rounds = w.rounds → WorksTo cfg snap n (afterIpek snap i w') (f w'.ipek).result) :
    WorksTo cfg snap (n + 2) w ((deriveIpek cfg.cipher snap.bdk snap.ksn).andThen f).result := by
  simp only [deriveIpek, Run.andThen_assoc, Run.pure_andThen]
  refine worksTo_call hd (by simp only [workStage, hs]; rfl) fun left => ?_
  refine worksTo_call hd (by simp only [workStage]; rfl) fun right => ?_
  rw [leftHalf_append]
  exact h _ rfl

/-- The two stages of a round: its result is r1 and r2 side by side. -/
theorem worksTo_round {key : Key} {data : Block} {f : Key → Run (Key × Nat)} (hs : w.stage = .roundRight)
    (hkey : roundKey snap i w = key) (hdata : roundData snap i w = data)
    (h : ∀ w', w'.accumulator = w.accumulator → w'.bitIndex = w.bitIndex → w'.rounds = w.rounds + 1 →
      WorksTo cfg snap n (afterRound i w') (f (w'.r1 ++ w'.r2)).result) :
    WorksTo cfg snap (n + 2) w ((advance cfg.cipher key data).andThen f).result := by
  subst hkey hdata
  simp only [advance, Run.andThen_assoc, Run.pure_andThen]
  refine worksTo_call hd (by simp only [workStage, hs]; rfl) fun x2 => ?_
  refine worksTo_call hd
    (by simp only [workStage, workRoundLeft, roundKey_after_roundRight, roundData_after_roundRight]; rfl) fun x1 => ?_
  exact h _ rfl rfl rfl

/-- The stages of one counter bit: the test, and a round where the bit is set. -/
theorem worksTo_testBit {f : Iter → Run (Key × Nat)} (hi : i ≠ .advance) (hs : w.stage = .testBit)
    (h : ∀ w', w'.bitIndex = w.bitIndex → WorksTo cfg snap n (nextBit i w') (f (iterOf w')).result) :
    WorksTo cfg snap (n + 3) w ((iterBit cfg.cipher snap.ksn (iterOf w) w.bitIndex).andThen f).result := by
  cases hb : bitAt snap.ksn w.bitIndex with
  | true =>
    simp only [iterBit, hb, if_true, Run.andThen_assoc, Run.pure_andThen]
    refine worksTo_stage hd (by simp only [workStage, hs, workTestBit, hb, if_true]; rfl) ?_
    refine worksTo_round hd rfl (roundKey_of_ne_advance snap _ hi) (roundData_of_ne_advance snap _ hi)
      fun w' hacc hbit hrounds => ?_
    rw [afterRound_of_ne_advance w' hi]
    have hnext := h { w' with transactionKey := w'.r1 ++ w'.r2 } hbit
    simpa only [iterOf, hacc, hrounds] using hnext
  | false =>
    simp only [iterBit, hb, Bool.false_eq_true, if_false, Run.pure_andThen]
    refine (worksTo_stage hd ?_ (h w rfl)).mono hd (by omega)
    simp only [workStage, hs, workTestBit, hb, Bool.false_eq_true, if_false]

/-- The loop from the bit after w's on: m more bits, at most three stages each. -/
theorem worksTo_nextBit {f : Iter → Run (Key × Nat)} (hi : i ≠ .advance)
    (h : ∀ w', w'.stage = afterLoop i → WorksTo cfg snap n w' (f (iterOf w')).result) (m : Nat) :
    ∀ w : Working, w.bitIndex + m = 79 → WorksTo cfg snap (n + 3 * m) (nextBit i w)
      ((iterBits cfg.cipher snap.ksn (iterOf w) (List.range' (w.bitIndex + 1) m)).andThen f).result := by
  induction m with
  | zero =>
    intro w hw
    rw [nextBit, if_neg (by omega)]
    exact h { w with stage := afterLoop i } rfl
  | succ m ih =>
    intro w hw
    rw [nextBit, if_pos (by omega), List.range'_succ, iterBits, Run.andThen_assoc]
    refine worksTo_testBit (w := { w with bitIndex := w.bitIndex + 1, stage := .testBit }) hd hi rfl fun w' hbit => ?_
    rw [show w.bitIndex + 1 + 1 = w'.bitIndex + 1 by rw [hbit]]
    exact ih w' (by rw [hbit]; simp only; omega)

/-- The iterator's 63 stages at most. -/
theorem worksTo_deriveSession {ipek : Key} {f : Key × Nat → Run (Key × Nat)} (hi : i ≠ .advance) (hw : w.rounds = 0)
    (h : ∀ w', w'.stage = afterLoop i → WorksTo cfg snap n w' (f (w'.transactionKey, w'.rounds)).result) :
    WorksTo cfg snap (n + 63) (beginLoop snap ipek w) ((deriveSession cfg.cipher ipek snap.ksn).andThen f).result := by
  have hstart : iterStart ipek snap.ksn = iterOf (beginLoop snap ipek w) := by simp [iterStart, iterOf, beginLoop, hw]
  rw [deriveSession, hstart, counterBits, List.range'_succ, iterBits]
  simp only [Run.andThen_assoc, Run.pure_andThen]
  refine worksTo_testBit (w := beginLoop snap ipek w) hd hi rfl fun w' hbit => ?_
  have hbit : w'.bitIndex = 59 := hbit
  rw [show 59 + 1 = w'.bitIndex + 1 by rw [hbit]]
  exact worksTo_nextBit hd hi h 20 w' (by omega)

/-- The length check is the first stage of the commands that make one; where it fails, so does the work. -/
theorem worksTo_checkLengths {f : Unit → Run (Key × Nat)} (hi : ComputesUsageKey i) (hs : w.stage = .start)
    (h : WorksTo cfg snap n { w with stage := .ipekLeft } (f ()).result) :
    WorksTo cfg snap (n + 1) w ((checkLengths cfg.ksnOverlength snap.len).andThen f).result := by
  have hbegin : workStage cfg snap i w = beginWork cfg snap .computeDataKeyVariant w := by
    simp only [workStage, hs, beginWork_of_computesUsageKey hi]
  refine worksTo_stage hd hbegin ?_
  cases hc : (checkLengths cfg.ksnOverlength snap.len).result with
  | ok _ =>
    simp only [beginWork, hc, Run.andThen_of_ok hc]
    exact h
  | error e =>
    simp only [beginWork, hc, Run.andThen_of_error hc]
    exact (worksTo_failed rfl).mono hd (Nat.zero_le n)

/-- The length check, the IPEK and the iterator, up to the mask. -/
theorem worksTo_computeKey {u : Usage} {f : Key × Nat → Run (Key × Nat)} (hi : ComputesUsageKey i) (hs : w.stage = .start)
    (hw : w.rounds = 0)
    (h : ∀ w', w'.stage = .mask →
      WorksTo cfg snap n w' (f (applyMask cfg.masks w'.transactionKey u, w'.rounds)).result) :
    WorksTo cfg snap (n + 66) w ((checkLengths cfg.ksnOverlength snap.len).andThen fun _ =>
      (computeKey cfg snap.bdk snap.ksn u).andThen f).result := by
  refine worksTo_checkLengths hd hi hs ?_
  simp only [computeKey, Run.andThen_assoc, Run.pure_andThen]
  refine worksTo_ipek hd rfl fun w₁ hw₁ => ?_
  rw [afterIpek_of_computesUsageKey hi]
  exact worksTo_deriveSession hd hi.ne_advance (hw₁.trans hw) fun w₂ hw₂ =>
    h w₂ (hw₂.trans (afterLoop_of_computesUsageKey hi))

/-- The two stages in which the masked key encrypts its own halves. -/
theorem worksTo_selfEncrypt {f : Key → Run (Key × Nat)} (hs : w.stage = .part1)
    (h : ∀ w', w'.stage = .finished → w'.rounds = w.rounds →
      WorksTo cfg snap n w' (f (w'.part1 ++ w'.part2)).result) :
    WorksTo cfg snap (n + 2) w ((selfEncrypt cfg.cipher w.derivedKey).andThen f).result := by
  simp only [selfEncrypt, Run.andThen_assoc, Run.pure_andThen]
  refine worksTo_call hd (by simp only [workStage, hs]; rfl) fun part1 => ?_
  refine worksTo_call hd (by simp only [workStage]; rfl) fun part2 => ?_
  exact h _ rfl rfl

end decoded

/-! Each command from its first stage on. -/

section commands
variable (cfg : Config) {snap : Snapshot}

theorem worksTo_advance (hd : decode snap.cmd = .ok .advance) :
    WorksTo cfg snap 3 Working.cleared (runAdvance cfg snap).result := by
  refine worksTo_stage hd rfl (worksTo_round hd rfl rfl rfl fun w' _ _ hrounds => ?_)
  exact worksTo_finished hd rfl rfl hrounds

theorem worksTo_deriveIpek (hd : decode snap.cmd = .ok .deriveIpek) :
    WorksTo cfg snap 3 Working.cleared (runDeriveIpek cfg snap).result := by
  refine worksTo_stage hd rfl (worksTo_ipek hd rfl fun w' hrounds => ?_)
  exact worksTo_finished hd rfl rfl hrounds

theorem worksTo_runDeriveSession (hd : decode snap.cmd = .ok .deriveSession) :
    WorksTo cfg snap 64 Working.cleared (runDeriveSession cfg snap).result := by
  rw [← Run.andThen_pure (runDeriveSession cfg snap)]
  exact worksTo_stage hd rfl (worksTo_deriveSession hd (by decide) rfl fun w' hs => worksTo_finished hd hs rfl rfl)

theorem worksTo_applyMask {u : Usage} (hd : decode snap.cmd = .ok (.applyMask u)) :
    WorksTo cfg snap 2 Working.cleared (runApplyMask cfg snap u).result :=
  worksTo_stage hd rfl (worksTo_stage hd rfl (worksTo_finished hd rfl rfl rfl))

theorem worksTo_runComputeKey {u : Usage} (hd : decode snap.cmd = .ok (.computeKey u)) :
    WorksTo cfg snap 67 Working.cleared (runComputeKey cfg snap u).result := by
  rw [runComputeKey, ← Run.andThen_pure (computeKey cfg snap.bdk snap.ksn u)]
  refine worksTo_computeKey hd (.inl ⟨u, rfl⟩) rfl rfl fun w' hs => ?_
  exact worksTo_stage hd (workStage_of_mask hs) (worksTo_finished hd rfl rfl rfl)

theorem worksTo_computeDataKeyVariant (hd : decode snap.cmd = .ok .computeDataKeyVariant) :
    WorksTo cfg snap 69 Working.cleared (runComputeDataKeyVariant cfg snap).result := by
  refine worksTo_computeKey hd (.inr rfl) rfl rfl fun w' hs => ?_
  refine worksTo_stage hd (workStage_of_mask hs) ?_
  refine worksTo_selfEncrypt hd rfl fun w₂ hfin hrounds => ?_
  exact worksTo_finished hd hfin rfl hrounds

theorem worksTo_runOf {i : Instr} (hd : decode snap.cmd = .ok i) :
    WorksTo cfg snap 70 Working.cleared (runOf i cfg snap).result := by
  cases i with
  | advance => exact (worksTo_advance cfg hd).mono hd (by decide)
  | deriveIpek => exact (worksTo_deriveIpek cfg hd).mono hd (by decide)
  | deriveSession => exact (worksTo_runDeriveSession cfg hd).mono hd (by decide)
  | applyMask u => exact (worksTo_applyMask cfg hd).mono hd (by decide)
  | computeKey u => exact (worksTo_runComputeKey cfg hd).mono hd (by decide)
  | computeDataKeyVariant => exact (worksTo_computeDataKeyVariant cfg hd).mono hd (by decide)

/-- The work of an illegal word: none before its first stage, IllegalCommand from then on. -/
theorem workOutcome_of_illegal {e : Illegal} (hd : decode snap.cmd = .error e) (n : Nat) :
    workOutcome snap (workAfter cfg snap n) = if n = 0 then none else some (.error .illegalCommand) := by
  cases n with
  | zero => simp [workAfter, Working.cleared, workOutcome]
  | succ n => simp [workAfter, workStep, workOutcome, hd]

theorem commandRun_of_decode {i : Instr} (hd : decode snap.cmd = .ok i) : commandRun cfg snap = runOf i cfg snap := by
  simp only [commandRun, hd]

theorem commandRun_of_illegal {e : Illegal} (hd : decode snap.cmd = .error e) :
    commandRun cfg snap = Run.raise .illegalCommand := by
  simp only [commandRun, hd]

end commands

/-- Settles O19: the work of a legal word comes to its run's outcome and stands still there; an illegal word fails at
once. -/
theorem theWorkReachesTheOutcome : Obligations.TheWorkReachesTheOutcome := by
  intro cfg snap
  cases hd : decode snap.cmd with
  | ok i =>
    have hrun := worksTo_runOf cfg hd
    simp only [commandRun_of_decode cfg hd, workAfter_eq_iterate]
    exact ⟨⟨70, Nat.le_refl _, hrun⟩, fun n r h => hrun.unique hd h⟩
  | error e =>
    simp only [commandRun_of_illegal cfg hd, workOutcome_of_illegal cfg hd]
    refine ⟨⟨1, by decide, rfl⟩, fun n r h => ?_⟩
    split at h
    · cases h
    · exact (Option.some.inj h).symm

end Sys2Proof.Machine
end

/-! Vectors bit by bit from the most significant end (spec/00_scope.md R10, spec/41_datapath_primitives.md R121 to R123),
and the words of a vector register (spec/20_memory.md R63). -/

section
namespace Sys2Proof.Machine

section bits
variable {n : Nat}

theorem bitAt_of_lt (v : BitVec n) {k : Nat} (hk : k < n) : bitAt v k = v.getLsbD (n - 1 - k) := by
  simp [bitAt, BitVec.getMsbD, hk]

theorem bitAt_of_le (v : BitVec n) {k : Nat} (hk : n ≤ k) : bitAt v k = false :=
  BitVec.getMsbD_of_ge v k hk

theorem eq_of_bitAt_eq {v w : BitVec n} (h : ∀ k < n, bitAt v k = bitAt w k) : v = w :=
  BitVec.eq_of_getMsbD_eq h

theorem bitAt_slice (v : BitVec n) {a b j : Nat} (hbn : b ≤ n) (hj : j < b - a) :
    bitAt (slice v a b) j = bitAt v (a + j) := by
  rw [bitAt_of_lt _ hj, bitAt_of_lt v (by omega), slice, BitVec.getLsbD_extractLsb',
    show n - b + (b - a - 1 - j) = n - 1 - (a + j) by omega]
  simp
  omega

theorem bitAt_rangeMask {a b j : Nat} (hbn : b ≤ n) (hj : j < n) :
    bitAt (rangeMask n a b) j = decide (a ≤ j ∧ j < b) := by
  rw [bitAt_of_lt _ hj, rangeMask, BitVec.getLsbD_shiftLeft, BitVec.getLsbD_setWidth, BitVec.getLsbD_allOnes,
    Bool.eq_iff_iff]
  simp
  omega

theorem bitAt_clearRange (v : BitVec n) {a b j : Nat} (hbn : b ≤ n) (hj : j < n) :
    bitAt (clearRange v a b) j = (if a ≤ j ∧ j < b then false else bitAt v j) := by
  have hmask := bitAt_rangeMask (a := a) hbn hj
  unfold bitAt at hmask ⊢
  rw [clearRange, BitVec.getMsbD_and, BitVec.getMsbD_not, hmask]
  by_cases hab : a ≤ j ∧ j < b
  · simp [hab]
  · simp [hab, hj]

/-! Words. -/

/-- Bit 31 - k of word j is bit 32j + k of the vector. -/
theorem bitAt_wordAt (v : BitVec n) {j k : Nat} (hj : 32 * (j + 1) ≤ n) (hk : k < 32) :
    bitAt (wordAt v j) k = bitAt v (32 * j + k) := by
  rw [bitAt_of_lt _ hk, bitAt_of_lt v (by omega), wordAt, BitVec.getLsbD_extractLsb',
    show n - 32 * (j + 1) + (32 - 1 - k) = n - 1 - (32 * j + k) by omega]
  simp
  omega

/-- A word moved to place j, among zeros. -/
theorem bitAt_placedWord (w : Word) {i j : Nat} (hj : 32 * (j + 1) ≤ n) (hi : i < n) :
    bitAt (w.setWidth n <<< (n - 32 * (j + 1))) i = (if i / 32 = j then bitAt w (i % 32) else false) := by
  rw [bitAt_of_lt _ hi, BitVec.getLsbD_shiftLeft, BitVec.getLsbD_setWidth]
  split
  · next hij =>
    have hlow : ¬ n - 1 - i < n - 32 * (j + 1) := by omega
    rw [bitAt_of_lt w (by omega), show n - 1 - i - (n - 32 * (j + 1)) = 32 - 1 - i % 32 by omega]
    simp [hlow, show n - 1 - i < n by omega, show 31 - i % 32 < n by omega]
  · next hij =>
    rcases Nat.lt_or_ge (n - 1 - i) (n - 32 * (j + 1)) with h | h
    · simp [h]
    · simp [BitVec.getLsbD_of_ge w _ (show 32 ≤ n - 1 - i - (n - 32 * (j + 1)) by omega)]

/-- Writing word j sets the bits 32j to 32j + 31 and leaves the others. -/
theorem bitAt_setWordAt (v : BitVec n) (w : Word) {i j : Nat} (hj : 32 * (j + 1) ≤ n) (hi : i < n) :
    bitAt (setWordAt v j w) i = (if i / 32 = j then bitAt w (i % 32) else bitAt v i) := by
  have hplaced := bitAt_placedWord w hj hi
  have hcleared := bitAt_clearRange v (a := 32 * j) hj hi
  unfold bitAt at hplaced hcleared ⊢
  rw [setWordAt, BitVec.getMsbD_or, hplaced, hcleared]
  by_cases hij : i / 32 = j
  · rw [if_pos hij, if_pos hij, if_pos (by omega), Bool.false_or]
  · rw [if_neg hij, if_neg hij, if_neg (by omega), Bool.or_false]

theorem wordAt_setWordAt_self (v : BitVec n) (w : Word) {j : Nat} (hj : 32 * (j + 1) ≤ n) :
    wordAt (setWordAt v j w) j = w := by
  refine eq_of_bitAt_eq fun k hk => ?_
  rw [bitAt_wordAt _ hj hk, bitAt_setWordAt v w hj (by omega), if_pos (by omega), Nat.mul_add_mod, Nat.mod_eq_of_lt hk]

theorem wordAt_setWordAt_of_ne (v : BitVec n) (w : Word) {i j : Nat} (hi : 32 * (i + 1) ≤ n) (hj : 32 * (j + 1) ≤ n)
    (hij : i ≠ j) : wordAt (setWordAt v j w) i = wordAt v i := by
  refine eq_of_bitAt_eq fun k hk => ?_
  rw [bitAt_wordAt _ hi hk, bitAt_wordAt v hi hk, bitAt_setWordAt v w hj (by omega), if_neg (by omega)]

theorem setWordAt_setWordAt (v : BitVec n) (w : Word) {j : Nat} (hj : 32 * (j + 1) ≤ n) :
    setWordAt (setWordAt v j w) j w = setWordAt v j w := by
  refine eq_of_bitAt_eq fun i hi => ?_
  rw [bitAt_setWordAt _ w hj hi, bitAt_setWordAt v w hj hi]
  split <;> rfl

end bits

/-! The KSN's 80 bits in three words: word 2 has its upper half alone. -/

section ksn
variable (ksn : Ksn) (w : Word) {i j k : Nat}

theorem bitAt_ksnImage (i : Nat) : bitAt (ksnImage ksn) i = bitAt ksn i := by
  unfold bitAt
  rw [ksnImage, BitVec.getMsbD_append]
  split
  · next hi => simp [BitVec.getMsbD_of_ge ksn i hi]
  · rfl

theorem bitAt_setKsnWord (hj : j < 3) (hi : i < 80) :
    bitAt (setKsnWord ksn j w) i = (if i / 32 = j then bitAt w (i % 32) else bitAt ksn i) := by
  rw [setKsnWord, bitAt_slice _ (by decide) hi, Nat.zero_add, bitAt_setWordAt _ w (by omega) (by omega), bitAt_ksnImage]

/-- Word j of the KSN as read, bit by bit. -/
theorem bitAt_ksnWord (hj : j < 3) (hk : k < 32) : bitAt (wordAt (ksnImage ksn) j) k = bitAt ksn (32 * j + k) := by
  rw [bitAt_wordAt _ (by omega) hk, bitAt_ksnImage]

/-- What a KSN word reads after it was written: the bits that the KSN has. -/
theorem bitAt_ksnWord_setKsnWord_self (hj : j < 3) (hk : k < 32) :
    bitAt (wordAt (ksnImage (setKsnWord ksn j w)) j) k = (decide (32 * j + k < 80) && bitAt w k) := by
  rw [bitAt_ksnWord _ hj hk]
  rcases Nat.lt_or_ge (32 * j + k) 80 with h | h
  · rw [bitAt_setKsnWord ksn w hj h, if_pos (by omega), Nat.mul_add_mod, Nat.mod_eq_of_lt hk]
    simp [h]
  · rw [bitAt_of_le _ h]
    simp [h]

theorem ksnWord_setKsnWord_self (hj : j < 2) : wordAt (ksnImage (setKsnWord ksn j w)) j = w := by
  refine eq_of_bitAt_eq fun k hk => ?_
  rw [bitAt_ksnWord_setKsnWord_self ksn w (by omega) hk, decide_eq_true (by omega), Bool.true_and]

theorem bitAt_upperHalf : ∀ k < 32, bitAt (0xFFFF0000 : Word) k = decide (32 * 2 + k < 80) := by
  decide

theorem ksnWord_setKsnWord_last : wordAt (ksnImage (setKsnWord ksn 2 w)) 2 = w &&& 0xFFFF0000 := by
  refine eq_of_bitAt_eq fun k hk => ?_
  rw [bitAt_ksnWord_setKsnWord_self ksn w (by decide) hk, ← bitAt_upperHalf k hk, Bool.and_comm]
  exact BitVec.getMsbD_and.symm

theorem ksnWord_setKsnWord_of_ne (hi : i < 3) (hj : j < 3) (hij : i ≠ j) :
    wordAt (ksnImage (setKsnWord ksn j w)) i = wordAt (ksnImage ksn) i := by
  refine eq_of_bitAt_eq fun k hk => ?_
  rw [bitAt_ksnWord _ hi hk, bitAt_ksnWord ksn hi hk]
  rcases Nat.lt_or_ge (32 * i + k) 80 with h | h
  · rw [bitAt_setKsnWord ksn w hj h, if_neg (by omega)]
  · rw [bitAt_of_le _ h, bitAt_of_le _ h]

theorem setKsnWord_setKsnWord (hj : j < 3) : setKsnWord (setKsnWord ksn j w) j w = setKsnWord ksn j w := by
  refine eq_of_bitAt_eq fun i hi => ?_
  rw [bitAt_setKsnWord _ w hj hi, bitAt_setKsnWord ksn w hj hi]
  split <;> rfl

theorem ksnWord_zero : wordAt (ksnImage ksn) 0 = slice ksn 0 32 := by
  refine eq_of_bitAt_eq fun k hk => ?_
  rw [bitAt_ksnWord ksn (by decide) hk, Nat.mul_zero]
  exact (bitAt_slice ksn (by decide) hk).symm

end ksn

/-- Bit 31 - k of a word is its bit k from the most significant end. -/
theorem getLsbD_of_word (w : Word) {k : Nat} (hk : k < 32) : w.getLsbD (31 - k) = bitAt w k :=
  (bitAt_of_lt w hk).symm

/-- Settles O20: reads by `bitAt_wordAt`, writes by `bitAt_setWordAt`, and the KSN's through its three-word image. -/
theorem vectorWordsHoldTheirBits : Obligations.VectorWordsHoldTheirBits := by
  refine ⟨fun s k hk => ?reads, fun s w i => ?writes, ?firstWords, fun s hs => ?ksnExample⟩
  case reads =>
    simp only [getLsbD_of_word _ hk]
    refine ⟨fun j => bitAt_wordAt _ (by omega) hk, fun j => bitAt_wordAt _ (by omega) hk,
      fun j => bitAt_wordAt _ (by omega) hk, fun j => ?_⟩
    rw [readReg, bitAt_ksnWord _ j.isLt hk]
    split
    · rfl
    · next h => exact bitAt_of_le _ (Nat.le_of_not_lt h)
  case writes =>
    simp only [getLsbD_of_word w (Nat.mod_lt i (by decide : 32 > 0))]
    exact ⟨fun j hi => bitAt_setWordAt _ w (by omega) hi, fun j hi => bitAt_setWordAt _ w (by omega) hi,
      fun j hi => bitAt_setWordAt _ w (by omega) hi, fun j hi => bitAt_setKsnWord _ w j.isLt hi⟩
  case firstWords =>
    exact fun s => ⟨rfl, rfl, congrArg BitVec.toNat (ksnWord_zero s.ksn), rfl⟩
  case ksnExample =>
    simp only [readReg, hs]
    decide

end Sys2Proof.Machine
end

/-! The window's map and the accesses that reach it (spec/20_memory.md R60 to R62, R66; spec/60_exceptions.md R272). -/

section
namespace Sys2Proof.Machine

theorem performAccess_of_accessTarget_none {s : State} {a : Access} (h : accessTarget s.cfg.base a = none) :
    performAccess s a = { s with replies := .busError :: s.replies } := by
  simp [performAccess, h, giveReply]

/-- Settles O24: the map's rows one by one, and an access by the register word it reaches. -/
theorem theWindowHasItsMap : Obligations.TheWindowHasItsMap := by
  refine ⟨fun off r => ⟨fun h => ?inMap, fun h => ?atOffset⟩, fun s off r w h => ?served,
    fun s off => ?access, fun s a h => ?below, fun _ _ => rfl⟩
  case inMap =>
    obtain rfl := eq_regOffset_of_regAt h
    cases r with
    | cmd | status | ctrl | len => decide
    | bdk j | ksn j | kin j | din j | kout j => revert j; decide
  case atOffset =>
    exact (by decide : ∀ p ∈ _, regAt p.1 = some p.2) (off, r) h
  case served => simp [busRead, busWrite, busWriteReply, h]
  case access =>
    simp only [performAccess, accessTarget_window, busRead, busWrite, busWriteReply]
    cases regAt off <;> exact ⟨rfl, fun _ => rfl⟩
  case below => exact performAccess_of_accessTarget_none (accessTarget_below h)

/-- The offsets of R61 that hold a register word. -/
def Mapped (off : Nat) : Prop :=
  off % 4 = 0 ∧ off ≠ 0x2C ∧ off ≠ 0x48 ∧ off ≠ 0x4C ∧ off < 0x60

theorem regOffset_mapped (r : RegWord) : Mapped (regOffset r) := by
  unfold Mapped
  cases r with
  | cmd | status | ctrl | len => decide
  | bdk j | ksn j | kin j | din j | kout j => revert j; decide

theorem exists_regAt_of_mapped {off : Nat} (h : Mapped off) : ∃ r, regAt off = some r := by
  obtain ⟨haligned, h2C, h48, h4C, hlt⟩ := h
  have hmap : ∀ o < 0x60, o % 4 = 0 → o ≠ 0x2C → o ≠ 0x48 → o ≠ 0x4C → (regAt o).isSome := by decide
  exact Option.isSome_iff_exists.1 (hmap off hlt haligned h2C h48 h4C)

/-- A window access reaches a register word exactly when it is 32 bits wide and at a mapped offset. -/
theorem accessTarget_eq_none_iff (base off width : Nat) (kind : AccessKind) :
    accessTarget base { addr := base + off, width := width, kind := kind } = none ↔
      ¬ (width = 32 ∧ Mapped off) := by
  by_cases hwidth : width = 32
  · subst hwidth
    rw [accessTarget_window]
    constructor
    · rintro hnone ⟨-, hmapped⟩
      obtain ⟨r, hr⟩ := exists_regAt_of_mapped hmapped
      simp [hr] at hnone
    · intro hno
      refine Option.eq_none_iff_forall_ne_some.2 fun r hr => hno ⟨rfl, ?_⟩
      exact eq_regOffset_of_regAt hr ▸ regOffset_mapped r
  · simp [accessTarget, hwidth]

/-- An access that reaches a register word is handed something other than a bus error. -/
theorem performAccess_head_of_accessTarget_ne_none {s : State} {a : Access} (h : accessTarget s.cfg.base a ≠ none) :
    (performAccess s a).replies.head? ≠ some .busError := by
  obtain ⟨hnone, -⟩ | ⟨r, -, -, ht⟩ | ⟨r, w, -, -, ht⟩ := performAccess_cases s a
  · exact absurd hnone h
  · simp [ht]
  · simp [ht]

/-- Settles O23: the two clauses are the two sides of `accessTarget_eq_none_iff`. -/
theorem busErrorsChangeNothing : Obligations.BusErrorsChangeNothing := by
  intro s off width kind
  have hiff := accessTarget_eq_none_iff s.cfg.base off width kind
  unfold Mapped at hiff
  refine ⟨fun h => performAccess_of_accessTarget_none (hiff.2 ?_),
    fun hwidth haligned h2C h48 h4C hlt => performAccess_head_of_accessTarget_ne_none fun hnone => ?_⟩
  · rintro ⟨hwidth, haligned, h2C, h48, h4C, hlt⟩
    omega
  · exact hiff.1 hnone ⟨hwidth, haligned, h2C, h48, h4C, hlt⟩

end Sys2Proof.Machine
end

/-! What a write to a register word stores and what it leaves (spec/20_memory.md R65, R67). -/

section
namespace Sys2Proof.Machine

section status
variable (s : State) (w : Word) {b : Nat}

/-- Bit 3 of STATUS and its bits from 13 on, as numbers: the fields leave these places free. -/
theorem statusWord_toNat_reserved : (statusWord s).toNat / 2 ^ 3 % 2 = 0 ∧ (statusWord s).toNat < 2 ^ 13 := by
  have hbusy := s.busy.toNat_le
  have hdone := s.done.toNat_le
  have hovr := s.ovr.toNat_le
  rw [statusWord_toNat]
  omega

theorem statusWord_getLsbD_three : (statusWord s).getLsbD 3 = false := by
  rw [BitVec.getLsbD, Nat.testBit_eq_decide_div_mod_eq, (statusWord_toNat_reserved s).1]
  rfl

theorem statusWord_getLsbD_of_ge (hb : 13 ≤ b) : (statusWord s).getLsbD b = false :=
  Nat.testBit_lt_two_pow ((statusWord_toNat_reserved s).2.trans_le (Nat.pow_le_pow_right (by decide) hb))

/-- CTRL has no bits but bit 0. -/
theorem ctrlWord_getLsbD_of_ge (hb : 1 ≤ b) : (ctrlWord s).getLsbD b = false := by
  have hlt : (ctrlWord s).toNat < 2 ^ 1 := by
    rw [ctrlWord_toNat]
    exact Nat.lt_succ_of_le s.ie.toNat_le
  exact Nat.testBit_lt_two_pow (hlt.trans_le (Nat.pow_le_pow_right (by decide) hb))

theorem ctrlWord_writeCtrl : ctrlWord (writeCtrl s w) = w &&& 0x00000001 := by
  rw [ctrlWord, writeCtrl_ie]
  refine Eq.trans ?_ (BitVec.and_one_eq_setWidth_ofBool_getLsbD (x := w)).symm
  cases w.getLsbD 0 <;> rfl

theorem writeStatus_eq_ite : writeStatus s w =
    { s with done := if w.getLsbD 1 then false else s.done, ovr := if w.getLsbD 2 then false else s.ovr } := by
  rw [writeStatus]
  cases w.getLsbD 1 <;> cases w.getLsbD 2 <;> simp

/-- The lower half of the KSN's word 2 reads 0. -/
theorem ksnWord_last_getLsbD_of_lt (ksn : Ksn) (hb : b < 16) : (wordAt (ksnImage ksn) 2).getLsbD b = false := by
  rw [show b = 31 - (31 - b) by omega, getLsbD_of_word _ (by omega), bitAt_ksnWord ksn (by decide) (by omega)]
  exact bitAt_of_le ksn (by omega)

end status

/-- Settles O21: the reserved bits, then what each word reads after a write to it. -/
theorem eachWordHasItsAccessRights : Obligations.EachWordHasItsAccessRights := by
  intro s w
  refine ⟨fun j => ⟨rfl, ?koutReply⟩, fun _ => rfl, ?reserved, ?kept,
    ⟨ctrlWord_writeCtrl s w, rfl⟩, writeStatus_eq_ite s w⟩
  case koutReply => rw [busWriteReply, regAt_regOffset]
  case reserved =>
    exact ⟨statusWord_getLsbD_three s, fun _ hb => statusWord_getLsbD_of_ge s hb,
      fun _ hb => ctrlWord_getLsbD_of_ge s hb, fun _ hb => ksnWord_last_getLsbD_of_lt s.ksn hb⟩
  case kept =>
    exact ⟨rfl, ksnWord_setKsnWord_self s.ksn w (by decide), ksnWord_setKsnWord_self s.ksn w (by decide),
      ksnWord_setKsnWord_last s.ksn w, fun j => wordAt_setWordAt_self s.kin w (by omega),
      fun j => wordAt_setWordAt_self s.din w (by omega)⟩

/-- A read access, of any address and width, hands back a reply and does nothing else. -/
theorem performAccess_read (s : State) (addr width : Nat) :
    ∃ r, performAccess s { addr := addr, width := width, kind := .read } = { s with replies := r :: s.replies } := by
  obtain ⟨-, h⟩ | ⟨r, -, -, h⟩ | ⟨r, w, -, hkind, -⟩ :=
    performAccess_cases s { addr := addr, width := width, kind := .read }
  · exact ⟨_, h⟩
  · exact ⟨_, h⟩
  · cases hkind

section store
variable (s : State) {r : RegWord} (w : Word) (hcmd : r ≠ .cmd)
include hcmd

/-- No write but one to CMD reaches the sequencer or the internal state. -/
theorem writeReg_engine_of_ne_cmd :
    (writeReg s r w).seq = s.seq ∧ (writeReg s r w).snap = s.snap ∧ (writeReg s r w).work = s.work := by
  cases r with
  | cmd => exact absurd rfl hcmd
  | _ => exact ⟨rfl, rfl, rfl⟩

theorem writeReg_bdk_of_ne (hbdk : ∀ j, r ≠ .bdk j) : (writeReg s r w).bdk = s.bdk := by
  cases r with
  | cmd => exact absurd rfl hcmd
  | bdk j => exact absurd rfl (hbdk j)
  | _ => rfl

variable (hstatus : r ≠ .status)
include hstatus

theorem writeReg_writeReg : writeReg (writeReg s r w) r w = writeReg s r w := by
  cases r with
  | cmd => exact absurd rfl hcmd
  | status => exact absurd rfl hstatus
  | ctrl | len | kout j => rfl
  | bdk j => simp only [writeReg, setWordAt_setWordAt s.bdk w (show 32 * (j.val + 1) ≤ 128 by omega)]
  | ksn j => simp only [writeReg, setKsnWord_setKsnWord s.ksn w j.isLt]
  | kin j => simp only [writeReg, setWordAt_setWordAt s.kin w (show 32 * (j.val + 1) ≤ 128 by omega)]
  | din j => simp only [writeReg, setWordAt_setWordAt s.din w (show 32 * (j.val + 1) ≤ 64 by omega)]

/-- Only a word of the same vector shares a register with the word written. -/
theorem readReg_writeReg_of_ne {r' : RegWord} (hne : r' ≠ r) : readReg (writeReg s r w) r' = readReg s r' := by
  cases r with
  | cmd => exact absurd rfl hcmd
  | status => exact absurd rfl hstatus
  | ctrl => cases r' with
    | ctrl => exact absurd rfl hne
    | _ => rfl
  | len => cases r' with
    | len => exact absurd rfl hne
    | _ => rfl
  | bdk j => cases r' <;> rfl
  | ksn j => cases r' with
    | ksn i => exact ksnWord_setKsnWord_of_ne s.ksn w i.isLt j.isLt fun h => hne (congrArg _ (Fin.ext h))
    | _ => rfl
  | kin j => cases r' with
    | kin i => exact wordAt_setWordAt_of_ne s.kin w (by omega) (by omega) fun h => hne (congrArg _ (Fin.ext h))
    | _ => rfl
  | din j => cases r' with
    | din i => exact wordAt_setWordAt_of_ne s.din w (by omega) (by omega) fun h => hne (congrArg _ (Fin.ext h))
    | _ => rfl
  | kout j => rfl

end store

/-- Settles O25: `performAccess_read` for the reads, one lemma on `writeReg` for each thing a stored write leaves. -/
theorem readsAndWritesHaveNoOtherEffect : Obligations.ReadsAndWritesHaveNoOtherEffect := by
  refine ⟨performAccess_read, fun s r w hcmd hstatus => ?store, fun _ _ => rfl,
    fun s w => ⟨fun hidle => ?accepted, fun hbusy => ?dropped⟩⟩
  case store =>
    obtain ⟨hseq, hsnap, hwork⟩ := writeReg_engine_of_ne_cmd s w hcmd
    exact ⟨writeReg_writeReg s w hcmd hstatus, fun _ => readReg_writeReg_of_ne s w hcmd hstatus, hseq, hsnap, hwork,
      writeReg_cfg s r w, writeReg_host s r w, writeReg_turns s r w, writeReg_replies s r w,
      writeReg_bdk_of_ne s w hcmd⟩
  case accepted =>
    rw [writeReg, writeCmd_of_idle hidle]
    exact ⟨rfl, rfl⟩
  case dropped => exact writeCmd_of_busy hbusy w

end Sys2Proof.Machine
end

/-! The command words (spec/30_encoding.md R81 to R87): packing is the inverse of taking the fields, and the decoder goes by
the fields alone. -/

section
namespace Sys2Proof

theorem packFields_toNat (f : CommandFields) :
    (packFields f).toNat = (f.res.toNat * 2 ^ 3 + f.usage.toNat) * 2 ^ 4 + f.op.toNat := by
  simp only [packFields, Machine.toNat_append_eq_add]

theorem packFields_fieldsOf (w : Word) : packFields (fieldsOf w) = w := by
  refine BitVec.eq_of_toNat_eq ?_
  rw [packFields_toNat]
  simp only [fieldsOf, BitVec.extractLsb'_toNat, Nat.shiftRight_eq_div_pow]
  omega

theorem fieldsOf_packFields (f : CommandFields) : fieldsOf (packFields f) = f := by
  obtain ⟨op, usage, res⟩ := f
  have hw := packFields_toNat { op := op, usage := usage, res := res }
  have hop := op.isLt
  have husage := usage.isLt
  have hres := res.isLt
  dsimp only at hw
  simp only [fieldsOf, CommandFields.mk.injEq, ← BitVec.toNat_inj, BitVec.extractLsb'_toNat, Nat.shiftRight_eq_div_pow, hw]
  omega

theorem usageOf_eq_some_iff {code : BitVec 3} {u : Usage} : usageOf code = some u ↔ usageCode u = code := by
  cases u <;> revert code <;> decide

theorem usageOf_eq_none_iff {code : BitVec 3} : usageOf code = none ↔ 6 ≤ code.toNat := by
  revert code
  decide

theorem withoutUsage_ok_iff {usage : BitVec 3} {i j : Instr} : withoutUsage usage i = .ok j ↔ usage = 0 ∧ i = j := by
  unfold withoutUsage
  split <;> simp_all

theorem withUsage_ok_iff {usage : BitVec 3} {mk : Usage → Instr} {i : Instr} :
    withUsage usage mk = .ok i ↔ ∃ u, usageCode u = usage ∧ mk u = i := by
  simp only [← usageOf_eq_some_iff]
  cases h : usageOf usage <;> simp [withUsage, h]

theorem decodeOpcode_instrFields (i : Instr) : decodeOpcode (instrFields i).op (instrFields i).usage = .ok i := by
  cases i with
  | applyMask u | computeKey u => exact withUsage_ok_iff.2 ⟨u, rfl, rfl⟩
  | _ => rfl

theorem instrFields_of_decodeOpcode {op : BitVec 4} {usage : BitVec 3} {i : Instr} (h : decodeOpcode op usage = .ok i) :
    instrFields i = { op := op, usage := usage, res := 0 } := by
  unfold decodeOpcode at h
  split at h
  case h_1 hop | h_2 hop | h_3 hop | h_6 hop =>
    obtain rfl := (BitVec.toNat_eq_nat.1 hop).2
    obtain ⟨rfl, rfl⟩ := withoutUsage_ok_iff.1 h
    rfl
  case h_4 hop | h_5 hop =>
    obtain rfl := (BitVec.toNat_eq_nat.1 hop).2
    obtain ⟨u, rfl, rfl⟩ := withUsage_ok_iff.1 h
    rfl
  case h_7 => cases h

@[simp] theorem instrFields_res (i : Instr) : (instrFields i).res = 0 := by
  cases i <;> rfl

theorem decode_of_res_ne_zero {w : Word} (h : (fieldsOf w).res ≠ 0) : decode w = .error .reservedBits :=
  if_pos h

theorem decode_of_res_eq_zero {w : Word} (h : (fieldsOf w).res = 0) :
    decode w = decodeOpcode (fieldsOf w).op (fieldsOf w).usage :=
  if_neg (not_not.2 h)

/-- A word decodes to the command whose fields it holds. -/
theorem decode_ok_iff {w : Word} {i : Instr} : decode w = .ok i ↔ fieldsOf w = instrFields i := by
  constructor
  · intro h
    by_cases hres : (fieldsOf w).res = 0
    · rw [decode_of_res_eq_zero hres] at h
      rw [instrFields_of_decodeOpcode h, ← hres]
    · cases (decode_of_res_ne_zero hres).symm.trans h
  · intro h
    rw [decode_of_res_eq_zero (by rw [h, instrFields_res]), h, decodeOpcode_instrFields]

/-- Settles O29: a word decodes to the command whose fields it holds, and packing is the inverse of taking the fields. -/
theorem decodeAndEncodeAgree : Obligations.DecodeAndEncodeAgree := by
  intro w i
  rw [decode_ok_iff]
  constructor
  · intro h
    rw [encode, ← h, packFields_fieldsOf]
  · rintro rfl
    exact fieldsOf_packFields (instrFields i)

/-- Settles O28: the rows of the table are the commands beside their encodings. -/
theorem sixteenWordsAreLegal : Obligations.SixteenWordsAreLegal := by
  intro w i
  rw [decodeAndEncodeAgree w i]
  constructor
  · rintro rfl
    cases i with
    | applyMask u | computeKey u => cases u <;> decide
    | _ => decide
  · exact fun hrow => (by decide : ∀ p ∈ _, p.1 = encode p.2) (w, i) hrow

/-- Settles O31, by evaluating the decoder on each word. -/
theorem wordsFromTheEncodingDecode : Obligations.WordsFromTheEncodingDecode := by
  unfold Obligations.WordsFromTheEncodingDecode
  decide

theorem withoutUsage_error_iff {usage : BitVec 3} {i : Instr} :
    (∃ e, withoutUsage usage i = .error e) ↔ usage.toNat ≠ 0 := by
  have hzero : usage = 0 ↔ usage.toNat = 0 := BitVec.toNat_inj.symm
  unfold withoutUsage
  split <;> simp_all

theorem withUsage_error_iff {usage : BitVec 3} {mk : Usage → Instr} :
    (∃ e, withUsage usage mk = .error e) ↔ 6 ≤ usage.toNat := by
  rw [← usageOf_eq_none_iff]
  cases h : usageOf usage <;> simp [withUsage, h]

/-- Items 1, 3 and 4 of R86 for an opcode and a usage. -/
theorem decodeOpcode_error_iff {op : BitVec 4} {usage : BitVec 3} :
    (∃ e, decodeOpcode op usage = .error e) ↔
      (op.toNat = 0 ∨ 7 ≤ op.toNat) ∨ ((op.toNat = 4 ∨ op.toNat = 5) ∧ 6 ≤ usage.toNat) ∨
      ((op.toNat = 1 ∨ op.toNat = 2 ∨ op.toNat = 3 ∨ op.toNat = 6) ∧ usage.toNat ≠ 0) := by
  unfold decodeOpcode
  split
  case h_1 hop | h_2 hop | h_3 hop | h_6 hop => simp [withoutUsage_error_iff, hop]
  case h_4 hop | h_5 hop => simp [withUsage_error_iff, hop]
  case h_7 =>
    refine iff_of_true ⟨_, rfl⟩ ?_
    simp only [imp_false] at *
    omega

theorem decode_error_iff {w : Word} : (∃ e, decode w = .error e) ↔
    (fieldsOf w).res.toNat ≠ 0 ∨ ∃ e, decodeOpcode (fieldsOf w).op (fieldsOf w).usage = .error e := by
  have hzero : (fieldsOf w).res = 0 ↔ (fieldsOf w).res.toNat = 0 := BitVec.toNat_inj.symm
  by_cases hres : (fieldsOf w).res = 0
  · simp [decode_of_res_eq_zero hres, hzero.1 hres]
  · simp [decode_of_res_ne_zero hres, mt hzero.2 hres]

end Sys2Proof
end

/-! The frame of a command and what its outcome rests on (spec/30_encoding.md R86, R88; spec/40_command_lifecycle.md R105;
spec/60_exceptions.md R268). -/

section
namespace Sys2Proof.Machine

section complete
variable (s : State) (r : Except EngineError (Key × Nat))

@[simp] theorem complete_snap : (complete s r).snap = Snapshot.cleared := by
  obtain ⟨k, n, -, h⟩ | ⟨e, -, h⟩ := complete_cases s r <;> simp [h]

@[simp] theorem complete_work : (complete s r).work = Working.cleared := by
  obtain ⟨k, n, -, h⟩ | ⟨e, -, h⟩ := complete_cases s r <;> simp [h]

theorem complete_frame : CommandFrame s (complete s r) := by
  obtain ⟨k, n, -, h⟩ | ⟨e, -, h⟩ := complete_cases s r <;> rw [h]
  all_goals constructor <;> rfl

/-- A completion writes STATUS.ERR and STATUS.ROUNDS from the outcome alone. -/
theorem complete_err_rounds_congr (s' : State) :
    (complete s r).err = (complete s' r).err ∧ (complete s r).rounds = (complete s' r).rounds := by
  cases r <;> exact ⟨rfl, rfl⟩

end complete

theorem fail_failedWith (s : State) (e : EngineError) : FailedWith (fail s e) (errorCode e) :=
  ⟨rfl, rfl, rfl, rfl, rfl⟩

/-- Within the frame of a command lies every word of the window but STATUS and KOUT. -/
theorem CommandFrame.readReg_eq {s t : State} (h : CommandFrame s t) {r : RegWord} (hstatus : r ≠ .status)
    (hkout : ∀ j, r ≠ .kout j) : readReg t r = readReg s r := by
  cases r with
  | status => exact absurd rfl hstatus
  | kout j => exact absurd rfl (hkout j)
  | cmd => exact h.cmd
  | ctrl => exact congrArg (fun ie => (0 : BitVec 31) ++ bit ie) h.ie
  | len => exact h.len
  | bdk j => rfl
  | ksn j => exact congrArg (fun ksn => wordAt (ksnImage ksn) j.val) h.ksn
  | kin j => exact congrArg (fun kin => wordAt kin j.val) h.kin
  | din j => exact congrArg (fun din => wordAt din j.val) h.din

/-- Settles O13: each command is a completion, and a completion keeps the frame. -/
theorem everyCommandKeepsItsFrame : Obligations.EveryCommandKeepsItsFrame := by
  intro i s
  have hframe := complete_frame s (runOf i s.cfg s.snap).result
  exact ⟨_, exec_eq_complete i s, hframe, complete_snap _ _, complete_work _ _, complete_seq _ _, complete_done _ _,
    fun _ hstatus hkout => hframe.readReg_eq hstatus hkout⟩

/-- Settles O14: the runs are equal, command by command, and a completion writes by its outcome alone. -/
theorem eachCommandReadsOnlyItsOperands : Obligations.EachCommandReadsOnlyItsOperands := by
  intro s s' hcfg i hoperands
  have hrun : runOf i s'.cfg s'.snap = runOf i s.cfg s.snap := by
    cases i with
    | advance =>
      obtain ⟨hkin, hdin⟩ := hoperands
      simp only [runOf, runAdvance, hcfg, hkin, hdin]
    | deriveIpek =>
      obtain ⟨hbdk, hksn⟩ := hoperands
      simp only [runOf, runDeriveIpek, hcfg, hbdk, hksn]
    | deriveSession =>
      obtain ⟨hkin, hksn⟩ := hoperands
      simp only [runOf, runDeriveSession, hcfg, hkin, hksn]
    | applyMask u =>
      have hkin : s.snap.kin = s'.snap.kin := hoperands
      simp only [runOf, runApplyMask, hcfg, hkin]
    | computeKey u =>
      obtain ⟨hlen, hbdk, hksn⟩ := hoperands
      simp only [runOf, runComputeKey, hcfg, hlen, hbdk, hksn]
    | computeDataKeyVariant =>
      obtain ⟨hlen, hbdk, hksn⟩ := hoperands
      simp only [runOf, runComputeDataKeyVariant, hcfg, hlen, hbdk, hksn]
  have hframe := complete_frame s (runOf i s.cfg s.snap).result
  refine ⟨_, _, exec_eq_complete i s, exec_eq_complete i s', ?_⟩
  rw [hrun]
  obtain ⟨herr, hrounds⟩ := complete_err_rounds_congr s (runOf i s.cfg s.snap).result s'
  exact ⟨complete_kout_congr _ _ _, herr, hrounds, by simp, by simp,
    hframe.bdk, hframe.ksn, hframe.kin, hframe.din, hframe.len, hframe.ie⟩

/-- Settles O30: the decoder's refusals field by field, and the failing completion. -/
theorem fourConditionsMakeAWordIllegal : Obligations.FourConditionsMakeAWordIllegal := by
  refine ⟨fun w => ?conditions, fun s e hbusy hillegal => ?completion⟩
  case conditions =>
    rw [decode_error_iff, decodeOpcode_error_iff]
    exact or_left_comm
  case completion =>
    have hrun := commandRun_of_illegal s.cfg hillegal
    have hturn := completionTurn_of_busy hbusy
    rw [hrun] at hturn
    exact ⟨_, hturn, fail_failedWith s .illegalCommand, complete_frame s _, by rw [hrun]; rfl⟩

end Sys2Proof.Machine
end

/-! The host's values keep their canonical form (spec/30_encoding.md R89; log 13). -/

section
namespace Sys2Proof.Machine

theorem mem_storeValue {name : Nat} {w : Word} {vs : List (Nat × Word)} {p : Nat × Word}
    (h : p ∈ storeValue name w vs) : p = (name, w) ∨ p ∈ vs := by
  induction vs with
  | nil => exact .inl (List.mem_singleton.1 h)
  | cons v vs ih =>
    obtain ⟨m, x⟩ := v
    simp only [storeValue] at h
    split at h
    · exact List.mem_cons.1 h
    · split at h
      · exact (List.mem_cons.1 h).imp_right (List.mem_cons_of_mem _)
      · rcases List.mem_cons.1 h with rfl | h
        · exact .inr List.mem_cons_self
        · exact (ih h).imp_right (List.mem_cons_of_mem _)

theorem storeValue_sorted {vs : List (Nat × Word)} (h : ValuesSorted vs) (name : Nat) (w : Word) :
    ValuesSorted (storeValue name w vs) := by
  induction vs with
  | nil => exact List.pairwise_singleton _ _
  | cons v vs ih =>
    obtain ⟨m, x⟩ := v
    obtain ⟨hfirst, hrest⟩ := List.pairwise_cons.1 h
    simp only [storeValue]
    split
    · next hlt =>
      refine List.pairwise_cons.2 ⟨fun p hp => ?_, h⟩
      rcases List.mem_cons.1 hp with rfl | hp
      · exact hlt
      · exact hlt.trans (hfirst p hp)
    · split
      · next heq =>
        subst heq
        exact List.pairwise_cons.2 ⟨hfirst, hrest⟩
      · refine List.pairwise_cons.2 ⟨fun p hp => ?_, ih hrest⟩
        rcases mem_storeValue hp with rfl | hp
        · show m < name
          omega
        · exact hfirst p hp

@[simp] theorem tick_host (s : State) : (tick s).host = s.host := by
  unfold tick; split <;> rfl

@[simp] theorem complete_host (s : State) (r : Except EngineError (Key × Nat)) : (complete s r).host = s.host :=
  (complete_frame s r).host

/-- The host's turn gives at most one name a value. -/
theorem hostTurn_values {s t : State} (h : hostTurn s = .next t) :
    t.host.values = s.host.values ∨ ∃ name w, t.host.values = storeValue name w s.host.values := by
  obtain rfl | ⟨r, w, pc, rfl⟩ | ⟨r, name, pc, rfl⟩ | ⟨pc, rfl⟩ := hostTurn_cases h
  · exact .inl rfl
  · simp
  · exact .inr ⟨name, readReg s r, rfl⟩
  · simp

/-- Only the host's turn gives a name a value, and at most one. -/
theorem step_values {s t : State} (h : step s = .next t) :
    t.host.values = s.host.values ∨ ∃ name w, t.host.values = storeValue name w s.host.values := by
  obtain hhost | ⟨a, rfl⟩ | rfl | ⟨-, rfl⟩ | ⟨-, rfl⟩ | rfl := step_cases h
  · exact popTurn_host s ▸ hostTurn_values hhost
  all_goals simp

/-- Settles O5: a step stores at most one value, and storing keeps the names rising. -/
theorem everyStepKeepsTheHostValuesSorted : Obligations.EveryStepKeepsTheHostValuesSorted := by
  intro s t hs h
  obtain hsame | ⟨name, w, hstored⟩ := step_values h
  · rwa [hsame]
  · rw [hstored]
    exact storeValue_sorted hs name w

end Sys2Proof.Machine
end

/-! The lines of a host program (spec/30_encoding.md R89). -/

section
namespace Sys2Proof.Machine

theorem hostTurn_of_line {s : State} {line : HostLine} (h : s.host.program[s.host.pc]? = some line) :
    hostTurn s = hostLine s line := by
  simp only [hostTurn, h]

theorem fieldValue_eq (w : Word) {hi lo : Nat} (h : lo ≤ hi) :
    fieldValue w hi lo = w.toNat / 2 ^ lo % 2 ^ (hi + 1 - lo) := by
  rw [fieldValue, BitVec.extractLsb'_toNat, Nat.shiftRight_eq_div_pow, Nat.sub_add_comm h]

/-- Past the first line that is the label. -/
theorem afterLabel_of_first {l pc : Nat} {program : List HostLine} (h : program[pc]? = some (.label l))
    (hfirst : ∀ q, q < pc → program[q]? ≠ some (.label l)) : afterLabel l program = some (pc + 1) := by
  induction program generalizing pc with
  | nil => simp at h
  | cons line rest ih =>
    cases pc with
    | zero => simp_all [afterLabel]
    | succ pc =>
      have hline : line ≠ .label l := fun heq => hfirst 0 pc.succ_pos (congrArg some heq)
      have hrest := ih h fun q hq => hfirst (q + 1) (Nat.succ_lt_succ hq)
      simp [afterLabel, hline, hrest]

section hostBranch
variable {s : State} {name hi lo v l : Nat} {w : Word} (hlo : lo ≤ hi) (hhi : hi ≤ 31)
  (hw : lookupValue name s.host.values = some w)
include hlo hhi hw

theorem hostBranch_not_taken (hv : fieldValue w hi lo ≠ v) :
    hostBranch s name hi lo v l = .next (hostGoto s (s.host.pc + 1)) := by
  simp [hostBranch, hlo, hhi, hw, hv]

theorem hostBranch_taken {pc : Nat} (hv : fieldValue w hi lo = v) (hl : afterLabel l s.host.program = some pc) :
    hostBranch s name hi lo v l = .next (hostGoto s pc) := by
  simp [hostBranch, hlo, hhi, hw, hv, hl]

end hostBranch

/-- Settles O58, line by line; a branch by its field's value and the first line with its label. -/
theorem hostLinesDoTheirAccess : Obligations.HostLinesDoTheirAccess := by
  refine ⟨fun s r w h => ?write, fun s r name h => ?read, fun s l h => hostTurn_of_line h,
    fun s name hi lo v l w h hlo hhi hw => ?branch⟩
  case write =>
    rw [hostTurn_of_line h, hostLine, performAccess_lineWrite]
    simp [hostGoto, giveReply]
  case read =>
    rw [hostTurn_of_line h, hostLine, performAccess_lineRead]
    rfl
  case branch =>
    rw [hostTurn_of_line h, hostLine, ← fieldValue_eq w hlo]
    exact ⟨hostBranch_not_taken hlo hhi hw,
      fun pc hv hl hfirst => hostBranch_taken hlo hhi hw hv (afterLabel_of_first hl hfirst)⟩

end Sys2Proof.Machine
end

/-! The pseudo-instructions (spec/30_encoding.md R90; spec/20_memory.md R63). -/

section
namespace Sys2Proof.Machine

theorem toNat_wordAt {n : Nat} (v : BitVec n) (j : Nat) :
    (wordAt v j).toNat = v.toNat / 2 ^ (n - 32 * (j + 1)) % 2 ^ 32 := by
  rw [wordAt, BitVec.extractLsb'_toNat, Nat.shiftRight_eq_div_pow]

theorem words_of_key (v : Key) : wordAt v 0 ++ wordAt v 1 ++ wordAt v 2 ++ wordAt v 3 = v := by
  refine BitVec.eq_of_toNat_eq ?_
  simp only [toNat_append_eq_add, toNat_wordAt]
  omega

theorem words_of_ksnImage (v : BitVec 96) : wordAt v 0 ++ wordAt v 1 ++ wordAt v 2 = v := by
  refine BitVec.eq_of_toNat_eq ?_
  simp only [toNat_append_eq_add, toNat_wordAt]
  omega

theorem words_of_block (v : Block) : wordAt v 0 ++ wordAt v 1 = v := by
  refine BitVec.eq_of_toNat_eq ?_
  simp only [toNat_append_eq_add, toNat_wordAt]
  omega

/-- The labels a program's expansions take are one row of numbers. -/
theorem assembleFrom_eq_zipWith (l : Nat) (p : List Pseudo) :
    assembleFrom l p = (List.zipWith expand (List.range' l p.length) p).flatten := by
  induction p generalizing l with
  | nil => rfl
  | cons x xs ih => simp [assembleFrom, ih, List.range'_succ]

/-- A label above the program's own and not handed out to a stretch of its expansions is named by no line of that
stretch. -/
theorem lineLabel_ne_of_mem_assembleFrom {p r : List Pseudo} {l m : Nat} {line : HostLine}
    (hline : line ∈ assembleFrom l r) (hr : r ⊆ p) (hfresh : freshFrom p ≤ m) (hout : m < l ∨ l + r.length ≤ m) :
    lineLabel line ≠ some m := by
  intro hm
  rcases assembleFrom_label hline hm with ⟨hge, hlt⟩ | ⟨x, hx, hown⟩
  · omega
  · exact Nat.not_lt.2 hfresh (ownLabel_lt_freshFrom (hr hx) hown)

/-- The expansions around a `wait`, and its label that no other line names. -/
theorem assemble_wait (p q : List Pseudo) (name : Nat) : ∃ (before after : List HostLine) (l : Nat),
    assemble (p ++ .wait name :: q) = before ++ [.label l, .read .status name, .branch name 0 0 1 l] ++ after ∧
    ∀ line ∈ before ++ after, lineLabel line ≠ some l := by
  generalize hfrom : freshFrom (p ++ .wait name :: q) = first
  refine ⟨assembleFrom first p, assembleFrom (first + p.length + 1) q, first + p.length, ?lines,
    fun line hline => ?fresh⟩
  case lines => simp [assemble, hfrom, assembleFrom_append, assembleFrom, expand]
  case fresh =>
    have hfirst : freshFrom (p ++ .wait name :: q) ≤ first + p.length := by omega
    rcases List.mem_append.1 hline with hline | hline
    · exact lineLabel_ne_of_mem_assembleFrom hline (by simp) hfirst (.inr (Nat.le_refl _))
    · exact lineLabel_ne_of_mem_assembleFrom hline (by simp) hfirst (.inl (Nat.lt_succ_self _))

/-- Settles O59: the words of each operand, the expansions with their labels, and the fresh label of a `wait`. -/
theorem pseudoInstructionsExpandToTheirWords : Obligations.PseudoInstructionsExpandToTheirWords :=
  ⟨fun _ _ => rfl, fun _ h => ⟨_, _, _, _, words_of_key h, rfl, rfl⟩,
    fun _ h => ⟨_, _, _, words_of_ksnImage (ksnImage h), rfl⟩, fun _ h => ⟨_, _, words_of_block h, rfl⟩,
    fun _ _ => rfl, fun _ _ => rfl, fun _ _ => rfl,
    fun p => ⟨_, List.length_range', assembleFrom_eq_zipWith _ p⟩, assemble_wait⟩

end Sys2Proof.Machine
end

/-! The stops of the machine (spec/30_encoding.md R89, spec/60_exceptions.md R268; log 13): none is the engine's. -/

section
namespace Sys2Proof.Machine

/-- The host stands at an ill-formed branch and the outcome is the fault of its own: a bad field, an unread name, or a
missing label where the branch is taken. -/
def StopsAtBranch (s : State) (o : Outcome) : Prop :=
  ∃ name hi lo v l, s.host.program[s.host.pc]? = some (.branch name hi lo v l) ∧
    ((¬ (lo ≤ hi ∧ hi ≤ 31) ∧ o = .fault (.hostIllFormedField hi lo)) ∨
      (lookupValue name s.host.values = none ∧ o = .fault (.hostUnreadName name)) ∨
      (∃ w, lookupValue name s.host.values = some w ∧ fieldValue w hi lo = v ∧
        afterLabel l s.host.program = none ∧ o = .fault (.hostMissingLabel l)))

theorem StopsAtBranch.exists_fault {s : State} {o : Outcome} (h : StopsAtBranch s o) : ∃ f, o = .fault f := by
  obtain ⟨name, hi, lo, v, l, -, ⟨-, ho⟩ | ⟨-, ho⟩ | ⟨w, -, -, -, ho⟩⟩ := h <;> exact ⟨_, ho⟩

theorem hostBranch_next_or_stops {s : State} {name hi lo v l : Nat}
    (h : s.host.program[s.host.pc]? = some (.branch name hi lo v l)) :
    (∃ t, hostBranch s name hi lo v l = .next t) ∨ StopsAtBranch s (hostBranch s name hi lo v l) := by
  by_cases hfield : lo ≤ hi ∧ hi ≤ 31
  case neg => exact .inr ⟨_, _, _, _, _, h, .inl ⟨hfield, by rw [hostBranch, if_neg hfield]⟩⟩
  cases hname : lookupValue name s.host.values with
  | none => exact .inr ⟨_, _, _, _, _, h, .inr (.inl ⟨hname, by simp [hostBranch, hfield, hname]⟩)⟩
  | some w =>
    by_cases htaken : fieldValue w hi lo = v
    case neg => exact .inl ⟨_, hostBranch_not_taken hfield.1 hfield.2 hname htaken⟩
    cases hlabel : afterLabel l s.host.program with
    | none =>
      have hstop : hostBranch s name hi lo v l = .fault (.hostMissingLabel l) := by
        simp [hostBranch, hfield, hname, htaken, hlabel]
      exact .inr ⟨_, _, _, _, _, h, .inr (.inr ⟨w, hname, htaken, hlabel, hstop⟩)⟩
    | some pc => exact .inl ⟨_, hostBranch_taken hfield.1 hfield.2 hname htaken hlabel⟩

/-- The host's turn stops at an ill-formed branch or not at all. -/
theorem hostTurn_next_or_stops (s : State) : (∃ t, hostTurn s = .next t) ∨ StopsAtBranch s (hostTurn s) := by
  cases hline : s.host.program[s.host.pc]? with
  | none => exact .inl ⟨s, by simp only [hostTurn, hline]⟩
  | some line =>
    rw [hostTurn_of_line hline]
    cases line with
    | write r w => exact .inl ⟨_, rfl⟩
    | read r name => exact .inl ⟨_, rfl⟩
    | label l => exact .inl ⟨_, rfl⟩
    | branch name hi lo v l => exact hostBranch_next_or_stops hline

theorem completionTurn_next (s : State) : ∃ t, completionTurn s = .next t := by
  cases hseq : s.seq with
  | idle => exact ⟨_, completionTurn_of_idle hseq⟩
  | busy => exact ⟨_, completionTurn_of_busy hseq⟩

/-- Settles O7, turn by turn: every turn but the host's answers a next state, and the host's stops at an ill-formed
branch only. -/
theorem onlyAnIllFormedBranchStopsTheMachine : Obligations.OnlyAnIllFormedBranchStopsTheMachine := by
  intro s
  cases hts : s.turns with
  | nil =>
    rw [step_of_turns_nil hts]
    cases hseq : s.seq with
    | busy => exact .inl ⟨_, defaultTurn_of_busy hseq⟩
    | idle =>
      rw [defaultTurn_of_idle hseq]
      exact (hostTurn_next_or_stops s).imp_right fun hstop => ⟨.inr ⟨rfl, rfl⟩, hstop⟩
  | cons u us =>
    rw [step_of_turns_cons hts]
    cases u with
    | host => exact (hostTurn_next_or_stops { s with turns := us }).imp_right fun hstop => ⟨.inl rfl, hstop⟩
    | access a => exact .inl ⟨_, rfl⟩
    | tick => exact .inl ⟨_, rfl⟩
    | complete => exact .inl (completionTurn_next _)
    | reset => exact .inl ⟨_, rfl⟩

end Sys2Proof.Machine
end

/-! The command lifecycle (spec/40_command_lifecycle.md R101 to R107): acceptance, the dropped command, and a running
command's way to the completion with its snapshot's outcome. -/

section
namespace Sys2Proof.Machine

/-! What a completion writes. -/

theorem commandRun_rounds_le {cfg : Config} {snap : Snapshot} {k : Key} {n : Nat}
    (h : (commandRun cfg snap).result = .ok (k, n)) : n ≤ 21 := by
  cases hd : decode snap.cmd with
  | ok i =>
    rw [commandRun_of_decode cfg hd] at h
    exact (runOf_rounds h).trans_le (commandRounds_le i snap)
  | error e =>
    rw [commandRun_of_illegal cfg hd] at h
    cases h

theorem succeed_completedWith {n : Nat} (hn : n ≤ 21) (s : State) (k : Key) : CompletedWith (succeed s k n) k n :=
  ⟨rfl, succeed_rounds_toNat hn s k, rfl, rfl, rfl⟩

/-- ROUNDS holds every command's rounds, so that a completion shows the whole outcome. -/
theorem complete_completedAs (s : State) (cfg : Config) (snap : Snapshot) :
    CompletedAs (complete s (commandRun cfg snap).result) (commandRun cfg snap).result := by
  cases h : (commandRun cfg snap).result with
  | ok kn => exact succeed_completedWith (commandRun_rounds_le h) s kn.1
  | error e => exact fail_failedWith s e

theorem busy_eq_false_of_idle {s : State} (h : s.seq = .idle) : s.busy = false := by
  simp only [State.busy, h]

/-- Settles O12: the completion turn of a BUSY engine shows the outcome. -/
theorem completionWritesTheOutcome : Obligations.CompletionWritesTheOutcome := by
  intro s hbusy
  have hturn := completionTurn_of_busy hbusy
  have hcompleted := complete_completedAs s s.cfg s.snap
  refine ⟨fun k n hr => ?_, fun e hr => ?_⟩
  all_goals
    rw [hr] at hturn hcompleted
    obtain ⟨hkout, hrounds, herr, hidle, hdone⟩ := hcompleted
    exact ⟨_, hturn, hkout, hrounds, herr, busy_eq_false_of_idle hidle, hdone⟩

/-! The completing step. -/

theorem fail_frame (s : State) (e : EngineError) : CommandFrame s (fail s e) :=
  complete_frame s (.error e)

section completes
variable {s : State}

theorem exec_of_decode {i : Instr} (hd : decode s.snap.cmd = .ok i) :
    exec i s = .next (complete s (commandRun s.cfg s.snap).result) := by
  rw [exec_eq_complete, commandRun_of_decode s.cfg hd]

theorem complete_of_illegal {e : Illegal} (hd : decode s.snap.cmd = .error e) :
    complete s (commandRun s.cfg s.snap).result = fail s .illegalCommand := by
  rw [commandRun_of_illegal s.cfg hd]; rfl

theorem step_completes_of_unscheduled (hbusy : s.seq = .busy) (hts : s.turns = []) :
    step s = .next (complete s (commandRun s.cfg s.snap).result) :=
  (step_of_turns_nil hts).trans (defaultTurn_of_busy hbusy)

theorem step_completes_of_scheduled {ts : List Turn} (hbusy : s.seq = .busy) (hts : s.turns = .complete :: ts) :
    step s = .next (complete { s with turns := ts } (commandRun s.cfg s.snap).result) :=
  (step_of_turns_cons hts).trans (completionTurn_of_busy hbusy)

end completes

theorem decode_of_decodeTableWord {nbits w : Nat} {i : Instr} (h : decodeTableWord nbits w = some i) :
    decode (tableWord nbits w) = .ok i := by
  unfold decodeTableWord at h
  split at h
  · next hd => rw [hd, Option.some.inj h]
  · cases h

/-- Settles O8: a completing step, scheduled or by default, is the completion of the decoded command or of an illegal
word; `withFetchWord` leaves a BUSY engine with no turn scheduled. -/
theorem stepRunsTheDecodedCommand : Obligations.StepRunsTheDecodedCommand := by
  refine ⟨fun s i hbusy hts hd => ?default, fun s ts i hbusy hts hd => ?scheduled,
    fun s e hbusy hts hd => ?illegalDefault, fun s ts e hbusy hts hd => ?illegalScheduled, fun s nbits w i hw => ?fetched⟩
  case default => exact (step_completes_of_unscheduled hbusy hts).trans (exec_of_decode hd).symm
  case scheduled =>
    exact (step_completes_of_scheduled hbusy hts).trans (exec_of_decode (s := { s with turns := ts }) hd).symm
  case illegalDefault =>
    exact ⟨_, (step_completes_of_unscheduled hbusy hts).trans (congrArg _ (complete_of_illegal hd)),
      fail_failedWith _ _, fail_frame _ _⟩
  case illegalScheduled =>
    exact ⟨_, (step_completes_of_scheduled hbusy hts).trans
        (congrArg _ (complete_of_illegal (s := { s with turns := ts }) hd)),
      fail_failedWith _ _, fail_frame _ _⟩
  case fetched =>
    have hd : decode (s.withFetchWord nbits w).snap.cmd = .ok i := decode_of_decodeTableWord hw
    exact (step_completes_of_unscheduled rfl rfl).trans (exec_of_decode hd).symm

/-! A CMD write through the window. -/

theorem busWrite_cmd (s : State) (w : Word) : busWrite s 0x00 w = writeCmd s w := rfl

theorem busRead_cmd (s : State) : busRead s 0x00 = .data s.cmd := rfl

/-- Settles O10: the write is an acceptance, and an illegal word's completion keeps CMD. -/
theorem acceptanceStartsTheCommand : Obligations.AcceptanceStartsTheCommand := by
  intro s w hidle
  refine ⟨accept s w, by rw [busWrite_cmd, writeCmd_of_idle hidle], rfl, by rw [busRead_cmd, accept_cmd],
    rfl, rfl, rfl, rfl, rfl, rfl, rfl, rfl, rfl, rfl, rfl, rfl, rfl, fun e hd => ?illegal⟩
  have hturn : completionTurn (accept s w) = .next (fail (accept s w) .illegalCommand) :=
    (completionTurn_of_busy rfl).trans (congrArg _ (complete_of_illegal hd))
  exact ⟨_, hturn, fail_failedWith _ _, by rw [busRead_cmd, fail_cmd, accept_cmd]⟩

theorem complete_dropCommand (s : State) (r : Except EngineError (Key × Nat)) :
    complete (dropCommand s) r = dropCommand (complete s r) := by
  cases r <;> rfl

/-- Settles O11: the dropped write sets OVR, which a completion neither reads nor writes. -/
theorem aCommandWrittenWhileBusyIsDropped : Obligations.ACommandWrittenWhileBusyIsDropped := by
  intro s w hbusy
  have hdrop : busWrite s 0x00 w = dropCommand s := by rw [busWrite_cmd, writeCmd_of_busy hbusy]
  refine ⟨hdrop, _, completionTurn_of_busy hbusy, ?_⟩
  calc completionTurn (busWrite s 0x00 w)
    _ = completionTurn (dropCommand s) := by rw [hdrop]
    _ = .next (complete (dropCommand s) (commandRun s.cfg s.snap).result) := completionTurn_of_busy hbusy
    _ = .next (dropCommand (complete s (commandRun s.cfg s.snap).result)) := by rw [complete_dropCommand]

/-! A running command stays until its completion (R102, R105, R306; log 1). -/

/-- What a running command and its completion rest on is the same in both states, and so is the schedule. -/
structure KeepsCommand (s t : State) : Prop where
  cfg   : t.cfg = s.cfg
  seq   : t.seq = s.seq
  snap  : t.snap = s.snap
  turns : t.turns = s.turns

theorem KeepsCommand.trans {s t u : State} (h : KeepsCommand s t) (h' : KeepsCommand t u) : KeepsCommand s u :=
  ⟨h'.cfg.trans h.cfg, h'.seq.trans h.seq, h'.snap.trans h.snap, h'.turns.trans h.turns⟩

section keeps
variable {s : State} (hbusy : s.seq = .busy)
include hbusy

theorem writeReg_keepsCommand (r : RegWord) (w : Word) : KeepsCommand s (writeReg s r w) := by
  obtain ⟨hseq, hsnap, -⟩ := writeReg_of_busy s r w hbusy
  exact ⟨by simp, hseq.trans hbusy.symm, hsnap, by simp⟩

theorem performAccess_keepsCommand (a : Access) : KeepsCommand s (performAccess s a) := by
  obtain ⟨-, h⟩ | ⟨r, -, -, h⟩ | ⟨r, w, -, -, h⟩ := performAccess_cases s a <;> rw [h]
  · exact ⟨rfl, rfl, rfl, rfl⟩
  · exact ⟨rfl, rfl, rfl, rfl⟩
  · exact (writeReg_keepsCommand hbusy r w).trans ⟨rfl, rfl, rfl, rfl⟩

theorem hostTurn_keepsCommand {t : State} (h : hostTurn s = .next t) : KeepsCommand s t := by
  obtain rfl | ⟨r, w, pc, rfl⟩ | ⟨r, name, pc, rfl⟩ | ⟨pc, rfl⟩ := hostTurn_cases h
  · exact ⟨rfl, rfl, rfl, rfl⟩
  · exact (writeReg_keepsCommand hbusy r w).trans ⟨rfl, rfl, rfl, rfl⟩
  · exact ⟨rfl, rfl, rfl, rfl⟩
  · exact ⟨rfl, rfl, rfl, rfl⟩

theorem tick_keepsCommand : KeepsCommand s (tick s) := by
  rw [tick_of_busy hbusy]
  exact ⟨rfl, rfl, rfl, rfl⟩

/-- A scheduled turn other than a reset keeps the running command or completes it, or is the host's and stops. -/
theorem takeTurn_of_busy {u : Turn} (hu : u ≠ .reset) :
    (∃ t, takeTurn u s = .next t ∧ KeepsCommand s t) ∨
    takeTurn u s = .next (complete s (commandRun s.cfg s.snap).result) ∨
    (u = .host ∧ ∃ f, takeTurn u s = .fault f) := by
  cases u with
  | host =>
    rcases hostTurn_next_or_stops s with ⟨t, ht⟩ | hstop
    · exact .inl ⟨t, ht, hostTurn_keepsCommand hbusy ht⟩
    · exact .inr (.inr ⟨rfl, hstop.exists_fault⟩)
  | access a => exact .inl ⟨_, rfl, performAccess_keepsCommand hbusy a⟩
  | tick => exact .inl ⟨_, rfl, tick_keepsCommand hbusy⟩
  | complete => exact .inr (.inl (completionTurn_of_busy hbusy))
  | reset => exact absurd rfl hu

end keeps

/-! Runs of the machine, one step at a time. -/

theorem run_succ_of_next {s t : State} (h : step s = .next t) (n : Nat) :
    Host.Core.run core (n + 1) s = Host.Core.run core n t := by
  have hcore : core.step s = .next t := h
  simp only [Host.Core.run, hcore]

theorem run_succ_of_fault {s : State} {f : Fault} (h : step s = .fault f) (n : Nat) :
    Host.Core.run core (n + 1) s = .fault f := by
  have hcore : core.step s = .fault f := h
  simp only [Host.Core.run, hcore]

theorem reaches_one {s t : State} (h : step s = .next t) : Reaches s 1 t :=
  run_succ_of_next h 0

/-- Settles O15, by induction on the schedule: a turn completes the command, stops the host, or keeps the command with
one turn less to take. -/
theorem everyAcceptedCommandCompletes : Obligations.EveryAcceptedCommandCompletes := by
  intro s hbusy hreset
  generalize hts : s.turns = ts at hreset ⊢
  induction ts generalizing s with
  | nil =>
    exact ⟨1, by simp, .inl ⟨_, reaches_one (step_completes_of_unscheduled hbusy hts), complete_completedAs _ _ _⟩⟩
  | cons u us ih =>
    obtain ⟨hu, hus⟩ := not_or.1 (mt List.mem_cons.2 hreset)
    have hstep : step s = takeTurn u { s with turns := us } := step_of_turns_cons hts
    rcases takeTurn_of_busy (s := { s with turns := us }) hbusy (Ne.symm hu) with
      ⟨t, ht, hcfg, hseq, hsnap, hturns⟩ | ht | ⟨rfl, f, ht⟩
    · obtain ⟨n, hn, hrun⟩ := ih t (hseq.trans hbusy) hturns hus
      rw [hcfg, hsnap] at hrun
      have hsucc := run_succ_of_next (hstep.trans ht) n
      refine ⟨n + 1, Nat.succ_le_succ hn, hrun.imp (fun ⟨v, hv, hdone⟩ => ⟨v, hsucc.trans hv, hdone⟩) ?_⟩
      exact fun ⟨hhost, f, hf⟩ => ⟨List.mem_cons_of_mem u hhost, f, hsucc.trans hf⟩
    · exact ⟨1, by simp, .inl ⟨_, reaches_one (hstep.trans ht), complete_completedAs _ _ _⟩⟩
    · exact ⟨1, by simp, .inr ⟨by simp, f, run_succ_of_fault (hstep.trans ht) 0⟩⟩

end Sys2Proof.Machine
end

/-! The bits and bytes of a vector (spec/41_datapath_primitives.md R121 to R125; spec/20_memory.md R64). -/

section
namespace Sys2Proof.Machine

section vector
variable {n : Nat} (v : BitVec n)

theorem bitAt_setBit {i j : Nat} (hi : i < n) (hj : j < n) :
    bitAt (setBit v i) j = (if j = i then true else bitAt v j) := by
  have hmask := bitAt_rangeMask (a := i) (b := i + 1) (Nat.succ_le_of_lt hi) hj
  unfold bitAt at hmask ⊢
  rw [setBit, BitVec.getMsbD_or, hmask,
    show decide (i ≤ j ∧ j < i + 1) = decide (j = i) from decide_eq_decide.2 (by omega)]
  split <;> simp [*]

theorem setBit_of_bitAt {i : Nat} (hi : i < n) (hset : bitAt v i = true) : setBit v i = v := by
  refine eq_of_bitAt_eq fun j hj => ?_
  rw [bitAt_setBit v hi hj]
  split
  · next hji => rw [hji, hset]
  · rfl

@[simp] theorem length_toBytes : (toBytes v).length = n / 8 := by
  simp [toBytes]

theorem getD_toBytes {m : Nat} (hm : m < n / 8) : (toBytes v).getD m 0 = byteAt v m := by
  simp [toBytes, hm]

theorem bitAt_byteAt {m k : Nat} (hm : 8 * (m + 1) ≤ n) (hk : k < 8) : bitAt (byteAt v m) k = bitAt v (8 * m + k) := by
  rw [bitAt_of_lt _ hk, bitAt_of_lt v (by omega), byteAt, BitVec.getLsbD_extractLsb',
    show n - 8 * (m + 1) + (8 - 1 - k) = n - 1 - (8 * m + k) by omega]
  simp
  omega

/-- Reading byte m after the bits before it: eight more bits of the vector. -/
theorem shiftLeft_or_byteAt {m : Nat} (hm : 8 * (m + 1) ≤ n) :
    (v >>> (n - 8 * m)) <<< 8 ||| (byteAt v m).setWidth n = v >>> (n - 8 * (m + 1)) := by
  refine BitVec.eq_of_getLsbD_eq fun i hi => ?_
  rw [BitVec.getLsbD_or, BitVec.getLsbD_shiftLeft, BitVec.getLsbD_ushiftRight, BitVec.getLsbD_ushiftRight,
    BitVec.getLsbD_setWidth, byteAt, BitVec.getLsbD_extractLsb']
  rcases Nat.lt_or_ge i 8 with hlow | hhigh
  · simp [hlow, hi]
  · rw [show n - 8 * m + (i - 8) = n - 8 * (m + 1) + i by omega]
    simp [hi, Nat.not_lt.2 hhigh]

/-- The first m bytes read back: the vector's bits 0 to 8m - 1. -/
theorem ofBytes_firstBytes {m : Nat} (hm : 8 * m ≤ n) :
    ofBytes n ((List.range m).map (byteAt v)) = v >>> (n - 8 * m) := by
  induction m with
  | zero => exact (BitVec.ushiftRight_eq_zero (Nat.le_refl n)).symm
  | succ m ih =>
    have hfirst := ih (by omega)
    unfold ofBytes at hfirst ⊢
    rw [List.range_succ, List.map_append, List.foldl_append, hfirst]
    exact shiftLeft_or_byteAt v hm

theorem ofBytes_toBytes (hn : n % 8 = 0) : ofBytes n (toBytes v) = v := by
  rw [toBytes, ofBytes_firstBytes v (Nat.mul_div_le n 8), show n - 8 * (n / 8) = 0 by omega, BitVec.ushiftRight_zero]

theorem byteAt_wordAt {j m : Nat} (hj : 32 * (j + 1) ≤ n) (hm : m < 4) :
    byteAt (wordAt v j) m = byteAt v (4 * j + m) := by
  refine eq_of_bitAt_eq fun k hk => ?_
  rw [bitAt_byteAt _ (by omega) hk, bitAt_wordAt v hj (by omega), bitAt_byteAt v (by omega) hk]
  congr 1
  omega

theorem toBytes_wordAt {j : Nat} (hj : 32 * (j + 1) ≤ n) :
    toBytes (wordAt v j) = (List.range' (4 * j) 4).map (byteAt v) := by
  rw [toBytes, List.range'_eq_map_range, List.map_map]
  exact List.map_congr_left fun m hm => byteAt_wordAt v hj (List.mem_range.1 hm)

end vector

/-- The bytes of a key are those of its four words, one word after another. -/
theorem toBytes_key (v : Key) :
    toBytes v = toBytes (wordAt v 0) ++ toBytes (wordAt v 1) ++ toBytes (wordAt v 2) ++ toBytes (wordAt v 3) := by
  simp (disch := decide) only [toBytes_wordAt, ← List.map_append]
  rfl

/-- Settles O51, by the three operations' bits. -/
theorem sliceSetAndClearBitByBit : Obligations.SliceSetAndClearBitByBit :=
  ⟨fun _ v _ _ _ _ hb hj => bitAt_slice v hb hj, fun _ v _ _ hi hj => bitAt_setBit v hi hj,
    fun _ v _ hi hset => setBit_of_bitAt v hi hset, fun _ v _ _ _ _ hb hj => bitAt_clearRange v hb hj,
    by decide, by decide, by decide⟩

/-- Settles O52: each byte bit by bit, the reading back by the bytes read so far, and a key's bytes word by word. -/
theorem bytesArePackedMostSignificantFirst : Obligations.BytesArePackedMostSignificantFirst := by
  refine ⟨fun n v hn => ⟨length_toBytes v, ofBytes_toBytes v hn, fun m k hm hk => ?_⟩, toBytes_key, by decide⟩
  rw [getD_toBytes v hm, bitAt_byteAt v (by omega) hk]

end Sys2Proof.Machine
end

/-! The cipher calls of a command (spec/41_datapath_primitives.md R127, R128, R130): which are made, in what order, and
that a failed one is the last. -/

section
namespace Sys2Proof.Machine

/-- A computation makes calls of these kinds, and ends at the first that fails: what R128 and R130 say of a run. -/
structure MakesCalls {α : Type} (c : Cipher) (kinds : List Bool) (x : Run α) : Prop where
  /-- However it ends, the calls made are the first of these kinds. -/
  isPrefix : x.calls.map isTenc <+: kinds
  /-- On success they are all of them. -/
  all_of_ok : ∀ a, x.result = .ok a → x.calls.map isTenc = kinds
  /-- Without a CipherFailure every call was answered. -/
  answered : x.result ≠ .error .cipherFailure → ∀ call ∈ x.calls, callAnswer c call ≠ none
  /-- With a CipherFailure the last call failed, and no other. -/
  last_failed : x.result = .error .cipherFailure → ∃ before last, x.calls = before ++ [last] ∧
    callAnswer c last = none ∧ ∀ call ∈ before, callAnswer c call ≠ none

section makesCalls
variable {α β : Type} {c : Cipher} {kinds kinds' : List Bool}

theorem makesCalls_pure (a : α) : MakesCalls c [] (Run.pure a) where
  isPrefix := List.nil_prefix
  all_of_ok _ _ := rfl
  answered _ _ hmem := absurd hmem List.not_mem_nil
  last_failed h := nomatch h

theorem makesCalls_raise {e : EngineError} (he : e ≠ .cipherFailure) : MakesCalls c kinds (Run.raise e : Run α) where
  isPrefix := List.nil_prefix
  all_of_ok _ h := nomatch h
  answered _ _ hmem := absurd hmem List.not_mem_nil
  last_failed h := absurd (Except.error.inj h) he

/-- One call, whose answer is the result. -/
theorem makesCalls_call (call : CipherCall) :
    MakesCalls c [isTenc call] { calls := [call], result := cipherAnswer (callAnswer c call) } where
  isPrefix := List.prefix_rfl
  all_of_ok _ _ := rfl
  answered h call' hmem := by
    rw [List.mem_singleton.1 hmem]
    exact fun hnone => h (cipherAnswer_error_iff.2 ⟨hnone, rfl⟩)
  last_failed h := ⟨[], call, rfl, (cipherAnswer_error_iff.1 h).1, by simp⟩

theorem makesCalls_callSenc (key block : Block) : MakesCalls c [false] (callSenc c key block) :=
  makesCalls_call (.senc key block)

theorem makesCalls_callTenc (key : Key) (block : Block) : MakesCalls c [true] (callTenc c key block) :=
  makesCalls_call (.tenc key block)

/-- One computation after another: its calls after the first one's, and none after a failure. -/
theorem MakesCalls.andThen {x : Run α} {f : α → Run β} (hx : MakesCalls c kinds x)
    (hf : ∀ a, MakesCalls c kinds' (f a)) : MakesCalls c (kinds ++ kinds') (x.andThen f) := by
  cases hr : x.result with
  | error e =>
    rw [Run.andThen_of_error hr]
    exact {
      isPrefix := hx.isPrefix.trans (List.prefix_append _ _)
      all_of_ok := fun _ h => nomatch h
      answered := fun h => hx.answered fun he => h (Except.error.inj (hr.symm.trans he) ▸ rfl)
      last_failed := fun h => hx.last_failed (hr.trans (Except.error.inj h ▸ rfl)) }
  | ok a =>
    have hkinds := hx.all_of_ok a hr
    have hanswered := hx.answered (by simp [hr])
    rw [Run.andThen_of_ok hr]
    exact {
      isPrefix := by
        rw [List.map_append, hkinds]
        exact (List.prefix_append_right_inj _).2 (hf a).isPrefix
      all_of_ok := fun b h => by rw [List.map_append, hkinds, (hf a).all_of_ok b h]
      answered := fun h call hmem => (List.mem_append.1 hmem).elim (hanswered call) ((hf a).answered h call)
      last_failed := fun h => by
        obtain ⟨before, last, hcalls, hlast, hbefore⟩ := (hf a).last_failed h
        refine ⟨x.calls ++ before, last, by rw [hcalls, List.append_assoc], hlast, fun call hmem => ?_⟩
        exact (List.mem_append.1 hmem).elim (hanswered call) (hbefore call) }

/-- A computation that goes on without a call. -/
theorem MakesCalls.andThen_pure {x : Run α} (hx : MakesCalls c kinds x) (f : α → β) :
    MakesCalls c kinds (x.andThen fun a => Run.pure (f a)) := by
  simpa using hx.andThen fun a => makesCalls_pure (f a)

/-- A CipherFailure and a last call that alone failed are the same thing. -/
theorem MakesCalls.cipherFailure_iff {x : Run α} (hx : MakesCalls c kinds x) :
    x.result = .error .cipherFailure ↔ ∃ before last, x.calls = before ++ [last] ∧ callAnswer c last = none ∧
      ∀ call ∈ before, callAnswer c call ≠ none := by
  refine ⟨hx.last_failed, fun ⟨before, last, hcalls, hlast, _⟩ => ?_⟩
  by_contra hne
  exact hx.answered hne last (by simp [hcalls]) hlast

end makesCalls

/-! The engine's computations. -/

section computations
variable (c : Cipher) (cfg : Config) (snap : Snapshot)

theorem advance_makesCalls (key : Key) (data : Block) : MakesCalls c [false, false] (advance c key data) :=
  (makesCalls_callSenc _ _).andThen fun _ => (makesCalls_callSenc _ _).andThen_pure _

theorem deriveIpek_makesCalls (bdk : Key) (ksn : Ksn) : MakesCalls c [true, true] (deriveIpek c bdk ksn) :=
  (makesCalls_callTenc _ _).andThen fun _ => (makesCalls_callTenc _ _).andThen_pure _

theorem selfEncrypt_makesCalls (key : Key) : MakesCalls c [true, true] (selfEncrypt c key) :=
  (makesCalls_callTenc _ _).andThen fun _ => (makesCalls_callTenc _ _).andThen_pure _

/-- Bit i of the iterator makes two SENC calls where the KSN has it, and none where not. -/
theorem iterBit_makesCalls (ksn : Ksn) (it : Iter) (i : Nat) :
    MakesCalls c (List.replicate (2 * (bitAt ksn i).toNat) false) (iterBit c ksn it i) := by
  unfold iterBit
  split
  · next hset =>
    rw [hset]
    exact (advance_makesCalls c _ _).andThen_pure _
  · next hclear =>
    rw [Bool.eq_false_of_not_eq_true hclear]
    exact makesCalls_pure it

theorem iterBits_makesCalls (ksn : Ksn) (it : Iter) (is : List Nat) :
    MakesCalls c (List.replicate (2 * is.countP (bitAt ksn)) false) (iterBits c ksn it is) := by
  induction is generalizing it with
  | nil => exact makesCalls_pure it
  | cons i is ih =>
    have hcount : 2 * (i :: is).countP (bitAt ksn) = 2 * (bitAt ksn i).toNat + 2 * is.countP (bitAt ksn) := by
      rw [List.countP_cons]
      cases bitAt ksn i <;> simp +arith
    rw [hcount, List.replicate_add]
    exact (iterBit_makesCalls c ksn it i).andThen ih

theorem deriveSession_makesCalls (ipek : Key) (ksn : Ksn) :
    MakesCalls c (List.replicate (2 * popcount (counterOf ksn)) false) (deriveSession c ipek ksn) := by
  rw [popcount_counterOf]
  exact (iterBits_makesCalls c ksn _ _).andThen_pure _

theorem computeKey_makesCalls (bdk : Key) (ksn : Ksn) (u : Usage) :
    MakesCalls cfg.cipher ([true, true] ++ List.replicate (2 * popcount (counterOf ksn)) false)
      (computeKey cfg bdk ksn u) :=
  (deriveIpek_makesCalls _ bdk ksn).andThen fun ipek => (deriveSession_makesCalls _ ipek ksn).andThen_pure _

theorem computeDataKeyVariant_makesCalls (bdk : Key) (ksn : Ksn) :
    MakesCalls cfg.cipher ([true, true] ++ List.replicate (2 * popcount (counterOf ksn)) false ++ [true, true])
      (computeDataKeyVariant cfg bdk ksn) :=
  (computeKey_makesCalls cfg bdk ksn .dataRequest).andThen fun kn => (selfEncrypt_makesCalls _ kn.1).andThen_pure _

theorem checkLengths_makesCalls (policy : KsnOverlength) (len : Word) : MakesCalls c [] (checkLengths policy len) := by
  unfold checkLengths
  split_ifs
  · exact makesCalls_raise (by decide)
  · exact makesCalls_raise (by decide)
  · exact makesCalls_raise (by decide)
  · exact makesCalls_pure ()

/-- The kinds of a command's calls, true for TENC (R130). -/
def commandKinds (i : Instr) (snap : Snapshot) : List Bool :=
  match i with
  | .advance => [false, false]
  | .deriveIpek => [true, true]
  | .deriveSession => List.replicate (2 * popcount (counterOf snap.ksn)) false
  | .applyMask _ => []
  | .computeKey _ => [true, true] ++ List.replicate (2 * popcount (counterOf snap.ksn)) false
  | .computeDataKeyVariant => [true, true] ++ List.replicate (2 * popcount (counterOf snap.ksn)) false ++ [true, true]

theorem length_commandKinds_le (i : Instr) : (commandKinds i snap).length ≤ 46 := by
  have hcounter := popcount_counterOf_le snap.ksn
  cases i <;> simp [commandKinds] <;> omega

theorem runOf_makesCalls (i : Instr) : MakesCalls cfg.cipher (commandKinds i snap) (runOf i cfg snap) := by
  cases i with
  | advance => exact (advance_makesCalls _ snap.kin snap.din).andThen_pure _
  | deriveIpek => exact (deriveIpek_makesCalls _ snap.bdk snap.ksn).andThen_pure _
  | deriveSession => exact deriveSession_makesCalls _ snap.kin snap.ksn
  | applyMask u => exact makesCalls_pure _
  | computeKey u =>
    exact (checkLengths_makesCalls _ _ _).andThen fun _ => computeKey_makesCalls cfg snap.bdk snap.ksn u
  | computeDataKeyVariant =>
    exact (checkLengths_makesCalls _ _ _).andThen fun _ => computeDataKeyVariant_makesCalls cfg snap.bdk snap.ksn

theorem commandRun_makesCalls : ∃ kinds, MakesCalls cfg.cipher kinds (commandRun cfg snap) := by
  cases hd : decode snap.cmd with
  | ok i => exact ⟨_, commandRun_of_decode cfg hd ▸ runOf_makesCalls cfg snap i⟩
  | error e => exact ⟨[], commandRun_of_illegal cfg hd ▸ makesCalls_raise (by decide)⟩

end computations

theorem callAnswer_des_ne_none (call : CipherCall) : callAnswer .des call ≠ none := by
  cases call <;> exact Option.some_ne_none _

/-- Settles O47: the calls made are the first of the command's kinds, and on success all of them. -/
theorem eachCommandMakesItsCipherCalls : Obligations.EachCommandMakesItsCipherCalls := by
  intro cfg snap i
  have hcalls := runOf_makesCalls cfg snap i
  refine ⟨?atMost, fun kn hok => ?kinds⟩
  case atMost =>
    have hle := hcalls.isPrefix.length_le
    rw [List.length_map] at hle
    exact hle.trans (length_commandKinds_le snap i)
  case kinds =>
    rw [hcalls.all_of_ok kn hok]
    cases i <;> rfl

/-- Settles O48: a run ends at its first failed call, a failing completion shows the code, and the default cipher
answers every call. -/
theorem aFailingCallEndsTheCommand : Obligations.AFailingCallEndsTheCommand := by
  refine ⟨fun cfg snap => ?lastCall, fun s hbusy hfail => ?completion, fun cfg snap hdes hfail => ?defaultCipher⟩
  case lastCall =>
    obtain ⟨kinds, hcalls⟩ := commandRun_makesCalls cfg snap
    exact hcalls.cipherFailure_iff
  case completion =>
    have hturn := completionTurn_of_busy hbusy
    rw [hfail] at hturn
    exact ⟨_, hturn, fail_failedWith s .cipherFailure⟩
  case defaultCipher =>
    obtain ⟨kinds, hcalls⟩ := commandRun_makesCalls cfg snap
    obtain ⟨-, last, -, hlast, -⟩ := hcalls.last_failed hfail
    exact callAnswer_des_ne_none last (hdes ▸ hlast)

end Sys2Proof.Machine
end

/-! Commands by the outcome of their runs: a run's calls and answers, and the completion that shows it. -/

section
namespace Sys2Proof.Machine

/-- Going on without a call adds none. -/
theorem Run.andThen_pure_calls {α β : Type} (x : Run α) (f : α → β) :
    (x.andThen fun a => Run.pure (f a)).calls = x.calls := by
  cases h : x.result with
  | error e => rw [Run.andThen_of_error h]
  | ok a => rw [Run.andThen_of_ok h, Run.pure_calls, List.append_nil]

section callSenc
variable {c : Cipher} {key block : Block}

theorem callSenc_ok_iff {x : Block} : (callSenc c key block).result = .ok x ↔ cipherSenc c key block = some x :=
  cipherAnswer_ok_iff

theorem callSenc_error_iff {e : EngineError} :
    (callSenc c key block).result = .error e ↔ cipherSenc c key block = none ∧ e = .cipherFailure :=
  cipherAnswer_error_iff

end callSenc

section outcome
variable {s : State} {i : Instr}

theorem exec_of_runOf_ok {k : Key} {n : Nat} (h : (runOf i s.cfg s.snap).result = .ok (k, n)) :
    ∃ t, exec i s = .next t ∧ CommandFrame s t ∧ CompletedWith t k n := by
  have hn : n ≤ 21 := (runOf_rounds h).trans_le (commandRounds_le i s.snap)
  refine ⟨succeed s k n, ?_, complete_frame s (.ok (k, n)), succeed_completedWith hn s k⟩
  rw [exec_eq_complete, h, complete_ok]

theorem exec_of_runOf_error {e : EngineError} (h : (runOf i s.cfg s.snap).result = .error e) :
    ∃ t, exec i s = .next t ∧ CommandFrame s t ∧ FailedWith t (errorCode e) := by
  refine ⟨fail s e, ?_, fail_frame s e, fail_failedWith s e⟩
  rw [exec_eq_complete, h, complete_error]

end outcome

end Sys2Proof.Machine
end

/-! The round function and ADVANCE (spec/42_round_function.md R140 to R144). -/

section
namespace Sys2Proof.Machine

@[simp] theorem rightHalf_append (x y : Block) : rightHalf (x ++ y) = y :=
  BitVec.extractLsb'_append_eq_right

/-- Step 4 of R140 undoes itself: KRM ⊕ KRM = 0. -/
theorem masked_masked (key : Key) : key ^^^ krm ^^^ krm = key := by
  rw [BitVec.xor_assoc, BitVec.xor_self, BitVec.xor_zero]

section advance
variable {c : Cipher} {key : Key} {data : Block}

/-- The round succeeds exactly when both calls are answered: r1 under the masked key, then r2 under the unmasked one. -/
theorem advance_ok_iff {r : Key} : (advance c key data).result = .ok r ↔ ∃ x y,
    cipherSenc c (leftHalf key) (data ^^^ rightHalf key) = some x ∧
    cipherSenc c (leftHalf (key ^^^ krm)) (data ^^^ rightHalf (key ^^^ krm)) = some y ∧
    (y ^^^ rightHalf (key ^^^ krm)) ++ (x ^^^ rightHalf key) = r := by
  simp [advance, Run.andThen_ok_iff, callSenc_ok_iff]

/-- A failure of either call is the round's (R128). -/
theorem advance_of_unanswered (h : cipherSenc c (leftHalf key) (data ^^^ rightHalf key) = none ∨
      cipherSenc c (leftHalf (key ^^^ krm)) (data ^^^ rightHalf (key ^^^ krm)) = none) :
    (advance c key data).result = .error .cipherFailure := by
  rw [advance, Run.andThen_error_iff]
  cases hx : cipherSenc c (leftHalf key) (data ^^^ rightHalf key) with
  | none => exact .inl (callSenc_error_iff.2 ⟨hx, rfl⟩)
  | some x =>
    have hy := h.resolve_left (by simp [hx])
    exact .inr ⟨x, callSenc_ok_iff.2 hx, Run.andThen_error_iff.2 (.inl (callSenc_error_iff.2 ⟨hy, rfl⟩))⟩

/-- The unmasked key's call comes first, and the masked key's only after an answer to it. -/
theorem advance_calls (c : Cipher) (key : Key) (data : Block) :
    (advance c key data).calls = .senc (leftHalf key) (data ^^^ rightHalf key) ::
      (if cipherSenc c (leftHalf key) (data ^^^ rightHalf key) = none then []
        else [.senc (leftHalf (key ^^^ krm)) (data ^^^ rightHalf (key ^^^ krm))]) := by
  cases hx : cipherSenc c (leftHalf key) (data ^^^ rightHalf key) with
  | none => rw [advance, Run.andThen_of_error (callSenc_error_iff.2 ⟨hx, rfl⟩)]; rfl
  | some x =>
    rw [advance, Run.andThen_of_ok (callSenc_ok_iff.2 hx)]
    exact congrArg _ (Run.andThen_pure_calls _ _)

/-- R144: under the masked key the two calls change places, and with them the halves. -/
theorem advance_masked {r : Key} (h : (advance c key data).result = .ok r) :
    (advance c (key ^^^ krm) data).result = .ok (rightHalf r ++ leftHalf r) := by
  obtain ⟨x, y, hx, hy, rfl⟩ := advance_ok_iff.1 h
  rw [advance_ok_iff, masked_masked, leftHalf_append, rightHalf_append]
  exact ⟨y, x, hy, hx, rfl⟩

end advance

/-- Settles O33: masking twice gives the key back, so the masked round is the round with its two calls exchanged. -/
theorem theMaskSwapsTheHalves : Obligations.TheMaskSwapsTheHalves := by
  refine ⟨fun c key d r r' hr hr' => ?halves, fun c key d => ⟨?masked, ?unmasked⟩, by decide +kernel, by decide +kernel⟩
  case halves =>
    obtain rfl : rightHalf r ++ leftHalf r = r' := Except.ok.inj ((advance_masked hr).symm.trans hr')
    exact ⟨leftHalf_append _ _, rightHalf_append _ _⟩
  case masked => exact fun ⟨_, hr⟩ => ⟨_, advance_masked hr⟩
  case unmasked =>
    intro ⟨_, hr⟩
    have h := advance_masked hr
    rw [masked_masked] at h
    exact ⟨_, h⟩

theorem exec_advance_of_ok {s : State} {k : Key} (h : (advance s.cfg.cipher s.snap.kin s.snap.din).result = .ok k) :
    ∃ t, exec .advance s = .next t ∧ CommandFrame s t ∧ CompletedWith t k 1 :=
  exec_of_runOf_ok (Run.andThen_ok_iff.2 ⟨k, h, rfl⟩)

/-- The example of R141 (T-ADV-1). -/
theorem advance_example : (advance .des 0x6AC292FAA1315B4D858AB3A3D7D5933A 0x9876543210E00001).result =
    .ok 0x042666B49184CFA368DE9628D0397BC9 := by decide +kernel

/-- Settles O32: the completion shows the round's outcome, and the round is its two calls. -/
theorem advanceCompletesWithTheRound : Obligations.AdvanceCompletesWithTheRound := by
  refine ⟨by decide, fun s x y hx hy => ?success, fun s hnone => ?failure, advance_calls,
    fun s hdes hkin hdin => ?sample⟩
  case success => exact exec_advance_of_ok (advance_ok_iff.2 ⟨x, y, hx, hy, rfl⟩)
  case failure =>
    exact exec_of_runOf_error (i := .advance) (Run.andThen_error_iff.2 (.inl (advance_of_unanswered hnone)))
  case sample =>
    have hround := advance_example
    rw [← hdes, ← hkin, ← hdin] at hround
    obtain ⟨t, ht, -, hcompleted⟩ := exec_advance_of_ok hround
    exact ⟨t, ht, hcompleted⟩

end Sys2Proof.Machine
end

/-! Two TENC calls side by side: the left half of a key, then the right half (spec/41_datapath_primitives.md
R127, R128). -/

section
namespace Sys2Proof.Machine

section callTenc
variable {c : Cipher} {key : Key} {block : Block}

theorem callTenc_ok_iff {x : Block} : (callTenc c key block).result = .ok x ↔ cipherTenc c key block = some x :=
  cipherAnswer_ok_iff

theorem callTenc_error_iff {e : EngineError} :
    (callTenc c key block).result = .error e ↔ cipherTenc c key block = none ∧ e = .cipherFailure :=
  cipherAnswer_error_iff

end callTenc

/-- The key whose halves are two TENC answers, the left half's call made first: the shape of R160 steps 2 to 5 and of
R210 steps 2 to 4. -/
def tencPair (c : Cipher) (key : Key) (block : Block) (key' : Key) (block' : Block) : Run Key :=
  (callTenc c key block).andThen fun left => (callTenc c key' block').andThen fun right => Run.pure (left ++ right)

section tencPair
variable {c : Cipher} {key key' : Key} {block block' : Block}

theorem tencPair_of_answered {left right : Block} (hleft : cipherTenc c key block = some left)
    (hright : cipherTenc c key' block' = some right) :
    (tencPair c key block key' block').result = .ok (left ++ right) :=
  Run.andThen_ok_iff.2 ⟨left, callTenc_ok_iff.2 hleft, Run.andThen_ok_iff.2 ⟨right, callTenc_ok_iff.2 hright, rfl⟩⟩

/-- A failure of either call is the pair's (R128). -/
theorem tencPair_of_unanswered (h : cipherTenc c key block = none ∨ cipherTenc c key' block' = none) :
    (tencPair c key block key' block').result = .error .cipherFailure := by
  rw [tencPair, Run.andThen_error_iff]
  cases hleft : cipherTenc c key block with
  | none => exact .inl (callTenc_error_iff.2 ⟨hleft, rfl⟩)
  | some left =>
    have hright := h.resolve_left (by simp [hleft])
    exact .inr ⟨left, callTenc_ok_iff.2 hleft, Run.andThen_error_iff.2 (.inl (callTenc_error_iff.2 ⟨hright, rfl⟩))⟩

/-- The right half's call is made only after an answer to the left half's. -/
theorem tencPair_calls (c : Cipher) (key : Key) (block : Block) (key' : Key) (block' : Block) :
    (tencPair c key block key' block').calls =
      .tenc key block :: (if cipherTenc c key block = none then [] else [.tenc key' block']) := by
  cases hleft : cipherTenc c key block with
  | none => rw [tencPair, Run.andThen_of_error (callTenc_error_iff.2 ⟨hleft, rfl⟩)]; rfl
  | some left =>
    rw [tencPair, Run.andThen_of_ok (callTenc_ok_iff.2 hleft)]
    exact congrArg _ (Run.andThen_pure_calls _ _)

end tencPair

end Sys2Proof.Machine
end

/-! IPEK derivation and DERIVE_IPEK (spec/43_ipek.md R160 to R163). -/

section
namespace Sys2Proof.Machine

/-- R160: both calls encrypt the one block, under the BDK and then under the masked BDK. -/
theorem deriveIpek_eq_tencPair (c : Cipher) (bdk : Key) (ksn : Ksn) :
    deriveIpek c bdk ksn = tencPair c bdk (ipekBlock ksn) (bdk ^^^ krm) (ipekBlock ksn) := rfl

/-- KSN bits 0 to 58, then five zeros where the counter's top bits were (R160 step 1). -/
theorem bitAt_ipekBlock (ksn : Ksn) {j : Nat} (hj : j < 64) :
    bitAt (ipekBlock ksn) j = (decide (j < 59) && bitAt ksn j) := by
  have hkept : bitAt (ipekBlock ksn) j = bitAt (zeroCounter ksn) j := by
    rw [ipekBlock, bitAt_slice _ (by decide) hj, Nat.zero_add]
  rw [hkept, zeroCounter, bitAt_clearRange ksn (by decide) (by omega)]
  rcases Nat.lt_or_ge j 59 with hstatic | hcounter
  · rw [if_neg (by omega), decide_eq_true hstatic, Bool.true_and]
  · rw [if_pos (by omega), decide_eq_false (by omega), Bool.false_and]

theorem ipekBlock_congr {ksn ksn' : Ksn} (h : AgreeOn (· < 59) ksn ksn') : ipekBlock ksn = ipekBlock ksn' := by
  refine eq_of_bitAt_eq fun j hj => ?_
  rw [bitAt_ipekBlock ksn hj, bitAt_ipekBlock ksn' hj]
  by_cases hstatic : j < 59
  · rw [h j hstatic]
  · simp [hstatic]

/-- The block of R162's example KSNs gives the reference IPEK (T-IPEK-1 to T-IPEK-3). -/
theorem deriveIpek_of_referenceBlock {ksn : Ksn} (h : ipekBlock ksn = 0xFFFF9876543210E0) :
    (deriveIpek .des 0x0123456789ABCDEFFEDCBA9876543210 ksn).result = .ok 0x6AC292FAA1315B4D858AB3A3D7D5933A := by
  rw [deriveIpek_eq_tencPair, h]
  decide +kernel

/-- Settles O35: the derivation reads the KSN through its block, and the block holds KSN bits 0 to 58 only. -/
theorem theIpekIgnoresTheCounter : Obligations.TheIpekIgnoresTheCounter := by
  refine ⟨fun c bdk ksn ksn' h => ?congruence, fun ksn j hj => bitAt_ipekBlock ksn hj, fun ksn hmem => ?counters,
    by decide +kernel⟩
  case congruence => rw [deriveIpek_eq_tencPair, deriveIpek_eq_tencPair, ipekBlock_congr h]
  case counters =>
    simp only [List.mem_cons, List.not_mem_nil, or_false] at hmem
    rcases hmem with rfl | rfl | rfl <;> exact deriveIpek_of_referenceBlock (by decide)

theorem exec_deriveIpek_of_ok {s : State} {k : Key}
    (h : (deriveIpek s.cfg.cipher s.snap.bdk s.snap.ksn).result = .ok k) :
    ∃ t, exec .deriveIpek s = .next t ∧ CommandFrame s t ∧ CompletedWith t k 0 :=
  exec_of_runOf_ok (Run.andThen_ok_iff.2 ⟨k, h, rfl⟩)

/-- Settles O34: the completion shows the derivation's outcome, and the derivation is its two calls. -/
theorem deriveIpekCompletesWithTheIpek : Obligations.DeriveIpekCompletesWithTheIpek := by
  refine ⟨by decide, fun s left right hleft hright => ?success, fun s hnone => ?failure,
    fun c bdk ksn => tencPair_calls c bdk _ _ _, fun s hdes hbdk hksn => ?sample⟩
  case success => exact exec_deriveIpek_of_ok (tencPair_of_answered hleft hright)
  case failure =>
    exact exec_of_runOf_error (i := .deriveIpek) (Run.andThen_error_iff.2 (.inl (tencPair_of_unanswered hnone)))
  case sample =>
    have hipek := deriveIpek_of_referenceBlock (ksn := s.snap.ksn) (by rw [hksn]; decide)
    rw [← hdes, ← hbdk] at hipek
    obtain ⟨t, ht, -, hcompleted⟩ := exec_deriveIpek_of_ok hipek
    exact ⟨t, ht, hcompleted⟩

end Sys2Proof.Machine
end

/-! The session-key iterator and DERIVE_SESSION (spec/44_session_key.md R180 to R186). -/

section
namespace Sys2Proof.Machine

/-! The accumulator: on the way to bit i it is the KSN with the bits from i on cleared. -/

section accumulator
variable {n : Nat} {v : BitVec n} {i : Nat}

theorem setBit_clearRange (hi : i < n) (hset : bitAt v i = true) :
    setBit (clearRange v i n) i = clearRange v (i + 1) n := by
  refine eq_of_bitAt_eq fun j hj => ?_
  rw [bitAt_setBit _ hi hj, bitAt_clearRange v (Nat.le_refl n) hj, bitAt_clearRange v (Nat.le_refl n) hj]
  rcases Nat.lt_trichotomy j i with hlt | rfl | hgt
  · rw [if_neg (by omega), if_neg (by omega), if_neg (by omega)]
  · rw [if_pos rfl, if_neg (by omega), hset]
  · rw [if_neg (by omega), if_pos (by omega), if_pos (by omega)]

theorem clearRange_of_bit_clear (hclear : bitAt v i = false) : clearRange v i n = clearRange v (i + 1) n := by
  refine eq_of_bitAt_eq fun j hj => ?_
  rw [bitAt_clearRange v (Nat.le_refl n) hj, bitAt_clearRange v (Nat.le_refl n) hj]
  rcases Nat.lt_trichotomy j i with hlt | rfl | hgt
  · rw [if_neg (by omega), if_neg (by omega)]
  · rw [if_pos (by omega), if_neg (by omega), hclear]
  · rw [if_pos (by omega), if_pos (by omega)]

end accumulator

/-- R184: the window of the accumulator that holds the KSN up to bit i. -/
theorem window_clearRange (ksn : Ksn) {i : Nat} (hi : 15 ≤ i) :
    window (clearRange ksn (i + 1) 80) = windowAt ksn i := by
  refine eq_of_bitAt_eq (n := 64) fun j hj => ?_
  have hwindow : bitAt (window (clearRange ksn (i + 1) 80)) j = bitAt (clearRange ksn (i + 1) 80) (16 + j) :=
    bitAt_slice _ (by decide) hj
  have hslice : bitAt (slice ksn 16 80 : Block) j = bitAt ksn (16 + j) := bitAt_slice ksn (by decide) hj
  rw [hwindow, windowAt, bitAt_clearRange ksn (by decide) (by omega), bitAt_clearRange _ (by decide) hj, hslice]
  exact if_congr (by omega) rfl rfl

/-! The loop as a chain of rounds. -/

/-- The iterator on its way to bit i. -/
def iterAt (ksn : Ksn) (i : Nat) (key : Key) (rounds : Nat) : Iter where
  accumulator := clearRange ksn i 80
  transactionKey := key
  rounds := rounds

theorem iterStart_eq_iterAt (ipek : Key) (ksn : Ksn) : iterStart ipek ksn = iterAt ksn 59 ipek 0 := rfl

section loop
variable (c : Cipher) {ksn : Ksn} {i : Nat} (key : Key) (rounds : Nat)

theorem iterBit_of_set (hlow : 15 ≤ i) (hi : i < 80) (hset : bitAt ksn i = true) :
    iterBit c ksn (iterAt ksn i key rounds) i =
      (advance c key (windowAt ksn i)).andThen fun k => Run.pure (iterAt ksn (i + 1) k (rounds + 1)) := by
  simp only [iterBit, iterAt, hset, if_true, setBit_clearRange hi hset, window_clearRange ksn hlow]

theorem iterBit_of_clear (hclear : bitAt ksn i = false) :
    iterBit c ksn (iterAt ksn i key rounds) i = Run.pure (iterAt ksn (i + 1) key rounds) := by
  simp only [iterBit, iterAt, hclear, Bool.false_eq_true, if_false, clearRange_of_bit_clear hclear]

/-- The loop over bits i to i + m - 1 is the chain of rounds over the windows of those that are set. -/
theorem iterBits_eq_advanceChain (hlow : 15 ≤ i) {m : Nat} (hm : i + m ≤ 80) :
    iterBits c ksn (iterAt ksn i key rounds) (List.range' i m) =
      (advanceChain c key (((List.range' i m).filter (bitAt ksn)).map (windowAt ksn))).andThen fun k =>
        Run.pure (iterAt ksn (i + m) k (rounds + (List.range' i m).countP (bitAt ksn))) := by
  induction m generalizing i key rounds with
  | zero => exact (Run.pure_andThen key fun k => Run.pure (iterAt ksn i k rounds)).symm
  | succ m ih =>
    have hnext := fun key rounds => ih (i := i + 1) key rounds (by omega) (by omega)
    rw [List.range'_succ, iterBits, show i + (m + 1) = i + 1 + m by omega]
    cases hbit : bitAt ksn i with
    | true =>
      rw [iterBit_of_set c key rounds hlow (by omega) hbit, List.filter_cons_of_pos hbit, List.countP_cons_of_pos hbit,
        List.map_cons, advanceChain]
      simp only [Run.andThen_assoc, Run.pure_andThen, hnext, Nat.add_right_comm rounds 1, ← Nat.add_assoc]
    | false =>
      have hclear : ¬ bitAt ksn i = true := by simp [hbit]
      rw [iterBit_of_clear c key rounds hbit, Run.pure_andThen, hnext, List.filter_cons_of_neg hclear,
        List.countP_cons_of_neg hclear]

end loop

/-- R186: the chain of rounds over the windows of the counter's set bits, and their number. -/
theorem deriveSession_eq_advanceChain (c : Cipher) (ipek : Key) (ksn : Ksn) :
    deriveSession c ipek ksn =
      (advanceChain c ipek ((counterBits.filter (bitAt ksn)).map (windowAt ksn))).andThen fun k =>
        Run.pure (k, popcount (counterOf ksn)) := by
  rw [deriveSession, iterStart_eq_iterAt, popcount_counterOf, counterBits,
    iterBits_eq_advanceChain c ipek 0 (by decide) (by decide)]
  simp only [Run.andThen_assoc, Run.pure_andThen, iterAt, Nat.zero_add]

/-- Settles O38: the loop from bit 59 on is a chain of rounds, and its count is the counter's popcount. -/
theorem theSessionKeyIsTheChainOfRounds : Obligations.TheSessionKeyIsTheChainOfRounds :=
  deriveSession_eq_advanceChain

theorem popcount_counterOf_congr {ksn ksn' : Ksn} (h : ∀ i ∈ counterBits, bitAt ksn i = bitAt ksn' i) :
    popcount (counterOf ksn) = popcount (counterOf ksn') := by
  rw [popcount_counterOf, popcount_counterOf]
  exact List.countP_congr fun i hi => by rw [h i hi]

/-- The windows hold KSN bits 16 to 79 only. -/
theorem windowAt_congr {ksn ksn' : Ksn} (h : AgreeOn (16 ≤ ·) ksn ksn') : windowAt ksn = windowAt ksn' := by
  have hslice : slice ksn 16 80 = slice ksn' 16 80 := eq_of_bitAt_eq fun j hj => by
    rw [bitAt_slice ksn (by decide) hj, bitAt_slice ksn' (by decide) hj]
    exact h (16 + j) (Nat.le_add_right 16 j)
  funext i
  rw [windowAt, windowAt, hslice]

/-- Settles O39: the chain reads the KSN through the counter's bits and the windows, which lie from bit 16 on. -/
theorem theSessionKeyIgnoresTheFirstBits : Obligations.TheSessionKeyIgnoresTheFirstBits := by
  intro c ipek ksn ksn' h
  have hcounter : ∀ i ∈ counterBits, bitAt ksn i = bitAt ksn' i := fun i hi =>
    h i (Nat.le_trans (by decide) (List.left_le_of_mem_range' hi))
  have hbits : counterBits.filter (bitAt ksn) = counterBits.filter (bitAt ksn') := List.filter_congr hcounter
  rw [deriveSession_eq_advanceChain, deriveSession_eq_advanceChain, hbits, windowAt_congr h,
    popcount_counterOf_congr hcounter]

/-- R183: with no counter bit set the chain is empty. -/
theorem deriveSession_of_counter_zero (c : Cipher) (ipek : Key) {ksn : Ksn} (h : counterOf ksn = 0) :
    deriveSession c ipek ksn = Run.pure (ipek, 0) := by
  have hnone : popcount (counterOf ksn) = 0 := by rw [h]; decide
  have hempty : counterBits.filter (bitAt ksn) = [] := by
    rwa [popcount_counterOf, List.countP_eq_length_filter, List.length_eq_zero_iff] at hnone
  rw [deriveSession_eq_advanceChain, hempty, hnone]
  exact Run.pure_andThen ipek _

/-- Settles O37: the rounds are counted by the loop, the calls by their kinds, and the counter 0 leaves no round. -/
theorem oneRoundForEachSetCounterBit : Obligations.OneRoundForEachSetCounterBit := by
  intro c ipek ksn
  have hrounds : ∀ k n, (deriveSession c ipek ksn).result = .ok (k, n) → n = popcount (counterOf ksn) :=
    fun _ _ => deriveSession_rounds
  refine ⟨fun k n hok => ?counted, deriveSession_of_counter_zero c ipek, fun k n hones hok => ?allOnes⟩
  case counted =>
    have hn := hrounds k n hok
    have hcalls := congrArg List.length ((deriveSession_makesCalls c ipek ksn).all_of_ok _ hok)
    rw [List.length_map, List.length_replicate, ← hn] at hcalls
    exact ⟨hn, hn ▸ popcount_counterOf_le ksn, hcalls⟩
  case allOnes =>
    rw [hrounds k n hok, hones]
    decide

/-! A computation that checks nothing fails by a failing call only (R128, R187). -/

/-- However the computation ends in an error, it is CipherFailure. -/
def FailsByCallOnly {α : Type} (x : Run α) : Prop :=
  ∀ e, x.result = .error e → e = .cipherFailure

theorem failsByCallOnly_pure {α : Type} (a : α) : FailsByCallOnly (Run.pure a) := fun _ h => nomatch h

theorem failsByCallOnly_callSenc (c : Cipher) (key block : Block) : FailsByCallOnly (callSenc c key block) :=
  fun _ h => (callSenc_error_iff.1 h).2

theorem FailsByCallOnly.andThen {α β : Type} {x : Run α} {f : α → Run β} (hx : FailsByCallOnly x)
    (hf : ∀ a, FailsByCallOnly (f a)) : FailsByCallOnly (x.andThen f) := by
  intro e h
  rcases Run.andThen_error_iff.1 h with hfirst | ⟨a, -, hsecond⟩
  · exact hx e hfirst
  · exact hf a e hsecond

theorem advance_failsByCallOnly (c : Cipher) (key : Key) (data : Block) : FailsByCallOnly (advance c key data) :=
  (failsByCallOnly_callSenc c _ _).andThen fun _ =>
    (failsByCallOnly_callSenc c _ _).andThen fun _ => failsByCallOnly_pure _

theorem advanceChain_failsByCallOnly (c : Cipher) (key : Key) (ds : List Block) :
    FailsByCallOnly (advanceChain c key ds) := by
  induction ds generalizing key with
  | nil => exact failsByCallOnly_pure key
  | cons d ds ih => exact (advance_failsByCallOnly c key d).andThen ih

theorem deriveSession_failsByCallOnly (c : Cipher) (ipek : Key) (ksn : Ksn) :
    FailsByCallOnly (deriveSession c ipek ksn) := by
  rw [deriveSession_eq_advanceChain]
  exact (advanceChain_failsByCallOnly c ipek _).andThen fun _ => failsByCallOnly_pure _

/-! DERIVE_SESSION. -/

theorem exec_deriveSession_of_ok {s : State} {k : Key} {n : Nat}
    (h : (deriveSession s.cfg.cipher s.snap.kin s.snap.ksn).result = .ok (k, n)) :
    ∃ t, exec .deriveSession s = .next t ∧ CommandFrame s t ∧ CompletedWith t k n :=
  exec_of_runOf_ok h

theorem exec_deriveSession_of_error {s : State} {e : EngineError}
    (h : (deriveSession s.cfg.cipher s.snap.kin s.snap.ksn).result = .error e) :
    ∃ t, exec .deriveSession s = .next t ∧ CommandFrame s t ∧ FailedWith t 4 := by
  obtain rfl := deriveSession_failsByCallOnly _ _ _ e h
  exact exec_of_runOf_error (i := .deriveSession) h

/-- The example of R181. -/
theorem deriveSession_example : (deriveSession .des 0x6AC292FAA1315B4D858AB3A3D7D5933A 0xFFFF9876543210E00003).result =
    .ok (0x0DF3D9422ACA56E547676D07AD6BADFA, 2) := by decide +kernel

/-- Settles O36: the completion shows the iterator's outcome, whose only error is CipherFailure. -/
theorem deriveSessionCompletesWithTheSessionKey : Obligations.DeriveSessionCompletesWithTheSessionKey := by
  refine ⟨by decide, fun s k n => exec_deriveSession_of_ok, fun s e => exec_deriveSession_of_error,
    fun s hdes hkin hksn => ?sample⟩
  case sample =>
    have hsession := deriveSession_example
    rw [← hdes, ← hkin, ← hksn] at hsession
    obtain ⟨t, ht, -, hcompleted⟩ := exec_deriveSession_of_ok hsession
    exact ⟨t, ht, hcompleted⟩

end Sys2Proof.Machine
end

/-! The key masker: the length check, APPLY_MASK, COMPUTE_KEY and COMPUTE_DATA_KEY_VARIANT (spec/45_key_masker.md R200 to
R211). -/

section
namespace Sys2Proof.Machine

/-! Illegal words of the masker's opcodes (spec/30_encoding.md R86). -/

theorem completionTurn_of_illegal {s : State} (hbusy : s.seq = .busy) (h : ∃ e, decode s.snap.cmd = .error e) :
    ∃ t, completionTurn s = .next t ∧ CommandFrame s t ∧ FailedWith t 5 := by
  obtain ⟨e, hillegal⟩ := h
  obtain ⟨t, ht, hfailed, hframe, -⟩ := fourConditionsMakeAWordIllegal.2 s e hbusy hillegal
  exact ⟨t, ht, hframe, hfailed⟩

theorem decode_of_undefinedUsage {op : BitVec 4} (hop : op.toNat = 4 ∨ op.toNat = 5) {usage : BitVec 3}
    (husage : 6 ≤ usage.toNat) : ∃ e, decode ((0 : BitVec 25) ++ usage ++ op) = .error e := by
  have hfields := fieldsOf_packFields { op := op, usage := usage, res := 0 }
  rw [packFields] at hfields
  rw [decode_error_iff, hfields, decodeOpcode_error_iff]
  exact .inr (.inr (.inl ⟨hop, husage⟩))

/-- OP 6 stands for one command, and that command for one word. -/
theorem decode_of_op_six {w : Word} (hop : w.extractLsb' 0 4 = 6) (hw : w ≠ 0x00000006) :
    ∃ e, decode w = .error e := by
  cases hd : decode w with
  | error e => exact ⟨e, rfl⟩
  | ok i =>
    have hinstrOp : (instrFields i).op = 6 := decode_ok_iff.1 hd ▸ hop
    have hi : i = .computeDataKeyVariant := by
      cases i with
      | computeDataKeyVariant => rfl
      | _ => simp [instrFields] at hinstrOp
    exact absurd ((decodeAndEncodeAgree w i).1 hd) (hi ▸ hw)

/-! The length check (R205). -/

section lengths
variable {policy : KsnOverlength} {len : Word}

/-- The accepted lengths, in the words of the check. -/
theorem lengthsAccepted_iff : LengthsAccepted policy len ↔ bdkLen len = requiredBdkLen ∧
    requiredKsnLen ≤ ksnLen len ∧ (requiredKsnLen < ksnLen len → policy = .accept) := Iff.rfl

theorem checkLengths_of_accepted (h : LengthsAccepted policy len) : checkLengths policy len = Run.pure () := by
  obtain ⟨hbdk, hmin, hmax⟩ := lengthsAccepted_iff.1 h
  have hover : ¬ (requiredKsnLen < ksnLen len ∧ policy = .reject) := fun ⟨hlt, hreject⟩ =>
    nomatch (hmax hlt).symm.trans hreject
  rw [checkLengths, if_neg (not_not.2 hbdk), if_neg (Nat.not_lt.2 hmin), if_neg hover]

/-- The key's length is looked at first; past it, only the KSN's can be at fault. -/
theorem checkLengths_of_not_accepted (h : ¬ LengthsAccepted policy len) : checkLengths policy len =
    Run.raise (if bdkLen len ≠ requiredBdkLen then .invalidKeyLength else .invalidKsnLength) := by
  rw [lengthsAccepted_iff] at h
  unfold checkLengths
  split_ifs with hbdk hshort hover
  · rfl
  · rfl
  · rfl
  · refine absurd ⟨not_not.1 hbdk, Nat.le_of_not_lt hshort, fun hlt => ?_⟩ h
    cases policy with
    | accept => rfl
    | reject => exact absurd ⟨hlt, rfl⟩ hover

end lengths

/-- The lengths of the reset value of LEN are accepted under either policy. -/
theorem lengthsAccepted_resetLen (policy : KsnOverlength) : LengthsAccepted policy 0x00500080 :=
  ⟨by decide, by decide, fun h => absurd h (by decide)⟩

section computesUsageKey
variable {i : Instr} (hi : ComputesUsageKey i)
include hi

/-- The length check comes first, and LEN is read for nothing else. -/
theorem runOf_eq_checkLengths_andThen (cfg : Config) : ∃ f : Key → Ksn → Run (Key × Nat), ∀ snap : Snapshot,
    runOf i cfg snap = (checkLengths cfg.ksnOverlength snap.len).andThen fun _ => f snap.bdk snap.ksn := by
  obtain ⟨u, rfl⟩ | rfl := hi
  · exact ⟨fun bdk ksn => computeKey cfg bdk ksn u, fun _ => rfl⟩
  · exact ⟨computeDataKeyVariant cfg, fun _ => rfl⟩

theorem exec_of_lengths_not_accepted {s : State} (h : ¬ LengthsAccepted s.cfg.ksnOverlength s.snap.len) :
    ∃ t, exec i s = .next t ∧ CommandFrame s t ∧
      FailedWith t (if (s.snap.len.extractLsb' 0 16).toNat ≠ 128 then 1 else 2) ∧
      (runOf i s.cfg s.snap).calls = [] := by
  obtain ⟨f, hf⟩ := runOf_eq_checkLengths_andThen hi s.cfg
  have hrun := hf s.snap
  rw [checkLengths_of_not_accepted h, Run.raise_andThen] at hrun
  obtain ⟨t, ht, hframe, hfailed⟩ := exec_of_runOf_error (congrArg Run.result hrun)
  rw [apply_ite errorCode] at hfailed
  exact ⟨t, ht, hframe, hfailed, congrArg Run.calls hrun⟩

/-- With accepted lengths the run is the same whatever LEN says, and a completion reads the snapshot through its run. -/
theorem exec_len_congr {s : State} (h : LengthsAccepted s.cfg.ksnOverlength s.snap.len) {len' : Word}
    (h' : LengthsAccepted s.cfg.ksnOverlength len') :
    exec i s = exec i { s with snap := { s.snap with len := len' } } := by
  obtain ⟨f, hf⟩ := runOf_eq_checkLengths_andThen hi s.cfg
  have hrun : runOf i s.cfg s.snap = runOf i s.cfg { s.snap with len := len' } := by
    rw [hf, hf, checkLengths_of_accepted h, checkLengths_of_accepted h']
  rw [exec_eq_complete, exec_eq_complete, hrun]
  cases (runOf i s.cfg { s.snap with len := len' }).result <;> rfl

end computesUsageKey

/-- Settles O42: lengths that are not accepted raise before any call, and accepted ones leave the run as it is. -/
theorem twoCommandsCheckTheLengths : Obligations.TwoCommandsCheckTheLengths := by
  intro s i hcommand
  have hi : ComputesUsageKey i := hcommand.symm
  refine ⟨fun hbdk => ?key, fun hbdk hshort => ?shortKsn, fun hbdk hlong hreject => ?longKsn,
    fun h len' h' => exec_len_congr hi h h'⟩
  case key =>
    have hfailed := exec_of_lengths_not_accepted hi (s := s) fun ⟨haccepted, _, _⟩ => hbdk haccepted
    rwa [if_pos hbdk] at hfailed
  case shortKsn =>
    have hfailed := exec_of_lengths_not_accepted hi (s := s) fun ⟨_, hmin, _⟩ => Nat.not_lt.2 hmin hshort
    rwa [if_neg (not_not.2 hbdk)] at hfailed
  case longKsn =>
    have hfailed := exec_of_lengths_not_accepted hi (s := s) fun ⟨_, _, hmax⟩ =>
      nomatch (hmax hlong).symm.trans hreject
    rwa [if_neg (not_not.2 hbdk)] at hfailed

/-! APPLY_MASK (R200 to R203). -/

/-- R202: XOR is self-inverse. -/
theorem applyMask_applyMask (m : UsageMasks) (k : Key) (u : Usage) : applyMask m (applyMask m k u) u = k := by
  rw [applyMask, applyMask, BitVec.xor_assoc, BitVec.xor_self, BitVec.xor_zero]

theorem exec_applyMask (s : State) (u : Usage) : ∃ t, exec (.applyMask u) s = .next t ∧ CommandFrame s t ∧
    CompletedWith t (applyMask s.cfg.masks s.snap.kin u) 0 :=
  exec_of_runOf_ok (i := .applyMask u) rfl

/-- The two stages of APPLY_MASK: after them it is done, and has written its mask alone. -/
theorem workAfter_applyMask {cfg : Config} {snap : Snapshot} {u : Usage} (hd : decode snap.cmd = .ok (.applyMask u))
    (n : Nat) : workAfter cfg snap (n + 2) =
      { Working.cleared with stage := .finished, mask := usageMask cfg.masks u } := by
  induction n with
  | zero =>
    have hfirst : workAfter cfg snap 1 = { Working.cleared with stage := .mask } := workStep_of_decode hd _
    rw [workAfter, hfirst, workStep_of_decode hd]
    rfl
  | succ n ih =>
    rw [workAfter, ih, workStep_of_decode hd]
    rfl

/-- Settles O60: the completion is KIN under the mask, whatever the usage, and the work's two stages write the mask
alone. -/
theorem applyMaskTouchesNoDerivationState : Obligations.ApplyMaskTouchesNoDerivationState := by
  refine ⟨fun s u hzero => ?zeroMask, fun s u u' hmask => ?equalMasks, fun s u => ?operands,
    fun cfg snap u n hd => ?work⟩
  case zeroMask =>
    have hkin : applyMask s.cfg.masks s.snap.kin u = s.snap.kin := by simp [applyMask, hzero]
    exact hkin ▸ exec_applyMask s u
  case equalMasks =>
    have hrun : runOf (.applyMask u) s.cfg s.snap = runOf (.applyMask u') s.cfg s.snap := by
      simp only [runOf, runApplyMask, applyMask, hmask]
    rw [exec_eq_complete, exec_eq_complete, hrun]
  case operands =>
    obtain ⟨t, ht, hframe, -⟩ := exec_applyMask s u
    exact ⟨t, ht, hframe.bdk, hframe.ksn⟩
  case work =>
    match n with
    | 0 => exact ⟨.start, 0, rfl⟩
    | 1 => exact ⟨.mask, 0, workStep_of_decode hd _⟩
    | n + 2 => exact ⟨.finished, usageMask cfg.masks u, workAfter_applyMask hd n⟩

/-- Settles O40: the words by their fields, and the completion, which reads KIN and the mask alone. -/
theorem applyMaskCompletesWithTheMaskedKey : Obligations.ApplyMaskCompletesWithTheMaskedKey := by
  refine ⟨fun u => (decodeAndEncodeAgree _ (.applyMask u)).2 rfl, fun s u hu hbusy hcmd => ?illegal,
    fun s u => ?completion, fun s hkin hmask => ?sample⟩
  case illegal =>
    exact completionTurn_of_illegal hbusy (hcmd ▸ decode_of_undefinedUsage (op := 4) (.inl rfl) hu)
  case completion =>
    obtain ⟨t, ht, hframe, hcompleted⟩ := exec_applyMask s u
    refine ⟨t, ht, hframe, ?_, rfl⟩
    cases u <;> exact hcompleted
  case sample =>
    obtain ⟨t, ht, -, hcompleted⟩ := exec_applyMask s .pinRequest
    rw [applyMask, usageMask, hkin, hmask] at hcompleted
    exact ⟨t, ht, hcompleted⟩

/-- Settles O41: each run's KOUT is its KIN under the mask. -/
theorem applyMaskTwiceGivesTheKeyBack : Obligations.ApplyMaskTwiceGivesTheKeyBack := by
  refine ⟨applyMask_applyMask, fun s t u ht => ?_⟩
  obtain ⟨t₁, ht₁, -, hfirst⟩ := exec_applyMask s u
  obtain rfl : t₁ = t := Host.Outcome.next.inj (ht₁.symm.trans ht)
  obtain ⟨t₂, ht₂, -, hsecond⟩ := exec_applyMask { s with snap := { s.snap with kin := t₁.kout } } u
  refine ⟨t₂, ht₂, ?_⟩
  calc t₂.kout = applyMask s.cfg.masks t₁.kout u := hsecond.kout
    _ = applyMask s.cfg.masks (applyMask s.cfg.masks s.snap.kin u) u := by rw [hfirst.kout]
    _ = s.snap.kin := applyMask_applyMask _ _ _

/-! COMPUTE_KEY (R206 to R208). -/

theorem failsByCallOnly_callTenc (c : Cipher) (key : Key) (block : Block) : FailsByCallOnly (callTenc c key block) :=
  fun _ h => (callTenc_error_iff.1 h).2

theorem deriveIpek_failsByCallOnly (c : Cipher) (bdk : Key) (ksn : Ksn) : FailsByCallOnly (deriveIpek c bdk ksn) :=
  (failsByCallOnly_callTenc c _ _).andThen fun _ =>
    (failsByCallOnly_callTenc c _ _).andThen fun _ => failsByCallOnly_pure _

theorem computeKey_failsByCallOnly (cfg : Config) (bdk : Key) (ksn : Ksn) (u : Usage) :
    FailsByCallOnly (computeKey cfg bdk ksn u) :=
  (deriveIpek_failsByCallOnly _ bdk ksn).andThen fun _ =>
    (deriveSession_failsByCallOnly _ _ ksn).andThen fun _ => failsByCallOnly_pure _

section computeKey
variable {cfg : Config} {bdk : Key} {ksn : Ksn} {u : Usage}

theorem computeKey_ok_iff {key : Key} {n : Nat} : (computeKey cfg bdk ksn u).result = .ok (key, n) ↔
    ∃ ipek k, (deriveIpek cfg.cipher bdk ksn).result = .ok ipek ∧
      (deriveSession cfg.cipher ipek ksn).result = .ok (k, n) ∧ applyMask cfg.masks k u = key := by
  simp [computeKey, Run.andThen_ok_iff]

/-- Either derivation's error is the command's. -/
theorem computeKey_error_iff {e : EngineError} : (computeKey cfg bdk ksn u).result = .error e ↔
    (deriveIpek cfg.cipher bdk ksn).result = .error e ∨
      ∃ ipek, (deriveIpek cfg.cipher bdk ksn).result = .ok ipek ∧
        (deriveSession cfg.cipher ipek ksn).result = .error e := by
  simp [computeKey, Run.andThen_error_iff]

/-- The transaction key and the rounds of the reference BDK with the counter 1 (R207's and R211's examples), under the
usage's mask. -/
theorem computeKey_example (hdes : cfg.cipher = .des) :
    (computeKey cfg 0x0123456789ABCDEFFEDCBA9876543210 0xFFFF9876543210E00001 u).result =
      .ok (applyMask cfg.masks 0x042666B49184CFA368DE9628D0397BC9 u, 1) := by
  have hsession : (deriveSession .des 0x6AC292FAA1315B4D858AB3A3D7D5933A 0xFFFF9876543210E00001).result =
      .ok (0x042666B49184CFA368DE9628D0397BC9, 1) := by decide +kernel
  rw [computeKey_ok_iff, hdes]
  exact ⟨_, _, deriveIpek_of_referenceBlock (by decide), hsession, rfl⟩

end computeKey

section execComputeKey
variable {s : State} {u : Usage} (h : LengthsAccepted s.cfg.ksnOverlength s.snap.len)
include h

theorem runOf_computeKey_of_accepted :
    runOf (.computeKey u) s.cfg s.snap = computeKey s.cfg s.snap.bdk s.snap.ksn u := by
  rw [runOf, runComputeKey, checkLengths_of_accepted h, Run.pure_andThen]

theorem exec_computeKey_of_ok {key : Key} {n : Nat}
    (hkey : (computeKey s.cfg s.snap.bdk s.snap.ksn u).result = .ok (key, n)) :
    ∃ t, exec (.computeKey u) s = .next t ∧ CommandFrame s t ∧ CompletedWith t key n :=
  exec_of_runOf_ok (runOf_computeKey_of_accepted h ▸ hkey)

theorem exec_computeKey_of_error {e : EngineError}
    (hkey : (computeKey s.cfg s.snap.bdk s.snap.ksn u).result = .error e) :
    ∃ t, exec (.computeKey u) s = .next t ∧ CommandFrame s t ∧ FailedWith t 4 := by
  obtain rfl := computeKey_failsByCallOnly _ _ _ _ e hkey
  exact exec_of_runOf_error (i := .computeKey u) (runOf_computeKey_of_accepted h ▸ hkey)

end execComputeKey

/-- A completion without an error shows its run's result. -/
theorem runOf_ok_of_err_zero {i : Instr} {s t : State} (ht : exec i s = .next t) (herr : t.err = 0) :
    ∃ k n, (runOf i s.cfg s.snap).result = .ok (k, n) ∧ CompletedWith t k n := by
  cases hrun : (runOf i s.cfg s.snap).result with
  | ok kn =>
    obtain ⟨t', ht', -, hcompleted⟩ := exec_of_runOf_ok hrun
    obtain rfl : t' = t := Host.Outcome.next.inj (ht'.symm.trans ht)
    exact ⟨kn.1, kn.2, rfl, hcompleted⟩
  | error e =>
    obtain ⟨t', ht', -, hfailed⟩ := exec_of_runOf_error hrun
    obtain rfl : t' = t := Host.Outcome.next.inj (ht'.symm.trans ht)
    exact absurd (hfailed.err.symm.trans herr) (errorCode_ne_zero e)

/-- Settles O44: where COMPUTE_KEY succeeds its two derivations do, and each of the three commands completes with the piece
that is its own. -/
theorem computeKeyIsTheSequenceOfThree : Obligations.ComputeKeyIsTheSequenceOfThree := by
  intro s t u haccepted ht herr
  obtain ⟨key, n, hrun, hcompleted⟩ := runOf_ok_of_err_zero ht herr
  rw [runOf_computeKey_of_accepted haccepted] at hrun
  obtain ⟨ipek, k, hipek, hsession, hmasked⟩ := computeKey_ok_iff.1 hrun
  obtain ⟨t₁, ht₁, -, hfirst⟩ := exec_deriveIpek_of_ok hipek
  rw [← hfirst.kout] at hsession
  obtain ⟨t₂, ht₂, -, hsecond⟩ :=
    exec_deriveSession_of_ok (s := { s with snap := { s.snap with kin := t₁.kout } }) hsession
  obtain ⟨t₃, ht₃, -, hthird⟩ := exec_applyMask { s with snap := { s.snap with kin := t₂.kout } } u
  refine ⟨t₁, t₂, t₃, ht₁, ht₂, ht₃, hfirst.err, hsecond.err, hthird.err, ?kout, ?rounds⟩
  case kout => rw [hcompleted.kout, hthird.kout, hsecond.kout, hmasked]
  case rounds => exact BitVec.eq_of_toNat_eq (hcompleted.rounds.trans hsecond.rounds.symm)

/-- Settles O43: the words by their fields, the length check, and with accepted lengths the outcome of the two
derivations. -/
theorem computeKeyCompletesWithTheMaskedKey : Obligations.ComputeKeyCompletesWithTheMaskedKey := by
  refine ⟨fun u => (decodeAndEncodeAgree _ (.computeKey u)).2 rfl, fun s u hu hbusy hcmd => ?illegal,
    fun s u h => ?lengths, fun s u ipek k n h hipek hsession => ?success, fun s u e h herror => ?failure,
    fun s hdes hmask hlen hbdk hksn => ?sample⟩
  case illegal =>
    exact completionTurn_of_illegal hbusy (hcmd ▸ decode_of_undefinedUsage (op := 5) (.inr rfl) hu)
  case lengths =>
    obtain ⟨t, ht, hframe, hfailed, -⟩ := exec_of_lengths_not_accepted (.inl ⟨u, rfl⟩) h
    exact ⟨t, ht, hframe, hfailed⟩
  case success => exact exec_computeKey_of_ok h (computeKey_ok_iff.2 ⟨ipek, k, hipek, hsession, rfl⟩)
  case failure => exact exec_computeKey_of_error h (computeKey_error_iff.2 herror)
  case sample =>
    have hkey := computeKey_example (u := .pinRequest) hdes
    rw [← hbdk, ← hksn, applyMask, usageMask, hmask] at hkey
    obtain ⟨t, ht, -, hcompleted⟩ := exec_computeKey_of_ok (hlen ▸ lengthsAccepted_resetLen _) hkey
    exact ⟨t, ht, hcompleted⟩

/-! COMPUTE_DATA_KEY_VARIANT (R210, R211). -/

theorem selfEncrypt_eq_tencPair (c : Cipher) (dk : Key) :
    selfEncrypt c dk = tencPair c dk (leftHalf dk) dk (rightHalf dk) := rfl

section execComputeDataKeyVariant
variable {s : State} (h : LengthsAccepted s.cfg.ksnOverlength s.snap.len)
include h

theorem runOf_computeDataKeyVariant_of_accepted :
    runOf .computeDataKeyVariant s.cfg s.snap = computeDataKeyVariant s.cfg s.snap.bdk s.snap.ksn := by
  rw [runOf, runComputeDataKeyVariant, checkLengths_of_accepted h, Run.pure_andThen]

theorem exec_computeDataKeyVariant_of_ok {dk : Key} {n : Nat} {part1 part2 : Block}
    (hkey : (computeKey s.cfg s.snap.bdk s.snap.ksn .dataRequest).result = .ok (dk, n))
    (hpart1 : cipherTenc s.cfg.cipher dk (leftHalf dk) = some part1)
    (hpart2 : cipherTenc s.cfg.cipher dk (rightHalf dk) = some part2) :
    ∃ t, exec .computeDataKeyVariant s = .next t ∧ CommandFrame s t ∧ CompletedWith t (part1 ++ part2) n := by
  refine exec_of_runOf_ok ?_
  rw [runOf_computeDataKeyVariant_of_accepted h, computeDataKeyVariant, Run.andThen_ok_iff]
  exact ⟨(dk, n), hkey, Run.andThen_ok_iff.2 ⟨_, tencPair_of_answered hpart1 hpart2, rfl⟩⟩

theorem exec_computeDataKeyVariant_of_cipherFailure
    (herror : (computeDataKeyVariant s.cfg s.snap.bdk s.snap.ksn).result = .error .cipherFailure) :
    ∃ t, exec .computeDataKeyVariant s = .next t ∧ CommandFrame s t ∧ FailedWith t 4 :=
  exec_of_runOf_error (i := .computeDataKeyVariant) (runOf_computeDataKeyVariant_of_accepted h ▸ herror)

end execComputeDataKeyVariant

/-- Settles O45: the words by their fields, the length check, and with accepted lengths the outcome of COMPUTE_KEY's
computation and of its two TENC calls. -/
theorem computeDataKeyVariantCompletesWithTheTwoParts : Obligations.ComputeDataKeyVariantCompletesWithTheTwoParts := by
  refine ⟨by decide, fun s hbusy hop hcmd => completionTurn_of_illegal hbusy (decode_of_op_six hop hcmd),
    fun s h => ?lengths, fun s dk n part1 part2 h hkey hpart1 hpart2 => ?success, fun s h hfail => ?failure,
    fun c dk => tencPair_calls c dk _ dk _, fun s hdes hmask hlen hbdk hksn => ?sample⟩
  case lengths =>
    obtain ⟨t, ht, hframe, hfailed, -⟩ := exec_of_lengths_not_accepted (.inr rfl) h
    exact ⟨t, ht, hframe, hfailed⟩
  case success => exact exec_computeDataKeyVariant_of_ok h hkey hpart1 hpart2
  case failure =>
    refine exec_computeDataKeyVariant_of_cipherFailure h (Run.andThen_error_iff.2 ?_)
    obtain ⟨e, herror⟩ | ⟨dk, n, hkey, hnone⟩ := hfail
    · obtain rfl := computeKey_failsByCallOnly _ _ _ _ e herror
      exact .inl herror
    · exact .inr ⟨(dk, n), hkey, Run.andThen_error_iff.2 (.inl (tencPair_of_unanswered hnone))⟩
  case sample =>
    have hkey := computeKey_example (u := .dataRequest) hdes
    rw [← hbdk, ← hksn, applyMask, usageMask, hmask] at hkey
    obtain ⟨t, ht, -, hcompleted⟩ := exec_computeDataKeyVariant_of_ok (part1 := 0x448D3F076D830403)
      (part2 := 0x6A55A3D7E0055A78) (hlen ▸ lengthsAccepted_resetLen _) hkey (by rw [hdes]; decide +kernel)
      (by rw [hdes]; decide +kernel)
    exact ⟨t, ht, hcompleted⟩

end Sys2Proof.Machine
end

/-! The default cipher (spec/46_des_reference.md R230 to R246): its permutations bit by bit, and its rounds run
backwards. -/

section
namespace Sys2Proof.Machine

section permutation
variable {n m : Nat} {t : List Nat}

/-- The bits a table takes of a vector, as the number they spell. -/
def permutedNat (t : List Nat) (v : BitVec n) : Nat :=
  t.foldl (fun acc p => 2 * acc + (bitAt v (p - 1)).toNat) 0

theorem permute_eq (t : List Nat) (m : Nat) (v : BitVec n) : permute t m v = BitVec.ofNat m (permutedNat t v) := rfl

theorem permutedNat_concat (t : List Nat) (q : Nat) (v : BitVec n) :
    permutedNat (t ++ [q]) v = Nat.bit (bitAt v (q - 1)) (permutedNat t v) := by
  rw [Nat.bit_val, permutedNat, List.foldl_concat, permutedNat]

/-- By induction from the table's end: its last entry gives the lowest bit and moves the others one place up. -/
theorem testBit_permutedNat (v : BitVec n) {j p : Nat} (h : t[j]? = some p) :
    (permutedNat t v).testBit (t.length - 1 - j) = bitAt v (p - 1) := by
  induction t using List.reverseRecOn with
  | nil => simp at h
  | append_singleton t q ih =>
    have hj : j < (t ++ [q]).length := (List.getElem?_eq_some_iff.1 h).1
    rw [List.length_append, List.length_singleton] at hj ⊢
    rw [permutedNat_concat, Nat.add_sub_cancel]
    rcases Nat.lt_or_ge j t.length with hinit | hlast
    · rw [List.getElem?_append_left hinit] at h
      rw [show t.length - j = (t.length - 1 - j).succ by omega, Nat.testBit_bit_succ, ih h]
    · obtain rfl : j = t.length := by omega
      obtain rfl : q = p := Option.some.inj (List.getElem?_concat_length.symm.trans h)
      rw [Nat.sub_self, Nat.testBit_bit_zero]

theorem bitAt_permute (v : BitVec n) (hm : t.length = m) {j p : Nat} (h : t[j]? = some p) :
    bitAt (permute t m v) j = bitAt v (p - 1) := by
  have hj : j < m := hm ▸ (List.getElem?_eq_some_iff.1 h).1
  rw [bitAt_of_lt _ hj, permute_eq, BitVec.getLsbD_ofNat, decide_eq_true (by omega), Bool.true_and, ← hm,
    testBit_permutedNat v h]

/-- A permutation reads its vector at its table's positions alone. -/
theorem permute_congr {v w : BitVec n} (h : ∀ p ∈ t, bitAt v (p - 1) = bitAt w (p - 1)) :
    permute t m v = permute t m w := by
  have hnat : permutedNat t v = permutedNat t w := List.foldl_ext _ _ _ fun acc p hp => by rw [h p hp]
  rw [permute_eq, permute_eq, hnat]

/-- A table undoes another when each position's entry leads, through the other table, back to that position. -/
theorem permute_permute_cancel {s : List Nat} (hs : s.length = n) (ht : t.length = n)
    (hinv : ∀ j < n, (s[j]?.bind fun p => t[p - 1]?) = some (j + 1)) (v : BitVec n) :
    permute s n (permute t n v) = v := by
  refine eq_of_bitAt_eq fun j hj => ?_
  obtain ⟨p, hp, hback⟩ := Option.bind_eq_some_iff.1 (hinv j hj)
  rw [bitAt_permute _ hs hp, bitAt_permute v ht hback, Nat.add_sub_cancel]

end permutation

/-- Settles O53, by the bits of the number that the table's fold builds. -/
theorem aPermutationTakesItsTablesBits : Obligations.APermutationTakesItsTablesBits :=
  fun _ _ v _ _ h => bitAt_permute v rfl h

/-! The parity bits (R238, R245): PC-1 takes no position that is a multiple of 8. -/

/-- Bits outside the vectors are all 0. -/
theorem agreeOn_of_lt {n : Nat} {P : Nat → Prop} {v w : BitVec n} (h : ∀ j < n, P j → bitAt v j = bitAt w j) :
    AgreeOn P v w := by
  intro j hj
  rcases Nat.lt_or_ge j n with hin | hout
  · exact h j hin hj
  · rw [bitAt_of_le v hout, bitAt_of_le w hout]

theorem tablePC1_avoids_parity : ∀ p ∈ tablePC1, (p - 1) % 8 ≠ 7 := by decide

theorem roundKeys_congr {k k' : Block} (h : AgreeOn (· % 8 ≠ 7) k k') : roundKeys k = roundKeys k' := by
  have hpc1 : permute tablePC1 56 k = permute tablePC1 56 k' :=
    permute_congr fun p hp => h _ (tablePC1_avoids_parity p hp)
  rw [roundKeys, roundKeys, hpc1]

theorem desEncrypt_congr {k k' : Block} (h : AgreeOn (· % 8 ≠ 7) k k') (m : Block) :
    desEncrypt k m = desEncrypt k' m := by
  rw [desEncrypt, desEncrypt, roundKeys_congr h]

theorem desDecrypt_congr {k k' : Block} (h : AgreeOn (· % 8 ≠ 7) k k') (c : Block) :
    desDecrypt k c = desDecrypt k' c := by
  rw [desDecrypt, desDecrypt, roundKeys_congr h]

/-- A 64-bit part of a key that begins at a byte keeps the places within the bytes. -/
theorem agreeOn_slice {k k' : Key} (h : AgreeOn (· % 8 ≠ 7) k k') {a : Nat} (ha : 8 ∣ a) (hle : a + 64 ≤ 128) :
    AgreeOn (· % 8 ≠ 7) (slice k a (a + 64)) (slice k' a (a + 64)) := by
  refine agreeOn_of_lt fun j hj hbit => ?_
  rw [bitAt_slice k hle hj, bitAt_slice k' hle hj]
  exact h _ (by omega)

theorem tdesEncrypt_congr {k k' : Key} (h : AgreeOn (· % 8 ≠ 7) k k') (b : Block) :
    tdesEncrypt k b = tdesEncrypt k' b := by
  have hleft : AgreeOn (· % 8 ≠ 7) (leftHalf k) (leftHalf k') := agreeOn_slice h (a := 0) (by decide) (by decide)
  have hright : AgreeOn (· % 8 ≠ 7) (rightHalf k) (rightHalf k') := agreeOn_slice h (a := 64) (by decide) (by decide)
  rw [tdesEncrypt, tdesEncrypt, desEncrypt_congr hleft b, desDecrypt_congr hright, desEncrypt_congr hleft]

theorem cipherSenc_des (k b : Block) : cipherSenc .des k b = some (desEncrypt k b) := rfl

theorem cipherTenc_des (k : Key) (b : Block) : cipherTenc .des k b = some (tdesEncrypt k b) := rfl

/-- Settles O54: the default cipher's answers are values, and a key enters them through PC-1 alone. -/
theorem theDefaultCipherIgnoresParity : Obligations.TheDefaultCipherIgnoresParity := by
  refine ⟨fun k b => Option.some_ne_none _, fun k b => Option.some_ne_none _, fun k k' b h => ?senc,
    fun k k' b h => ?tenc⟩
  case senc => rw [cipherSenc_des, cipherSenc_des, desEncrypt_congr h]
  case tenc => rw [cipherTenc_des, cipherTenc_des, tdesEncrypt_congr h]

/-! Decryption (R242): the rounds run backwards from the swapped halves, between permutations that undo each other. -/

theorem tableFP_undoes_tableIP : ∀ j < 64, (tableFP[j]?.bind fun p => tableIP[p - 1]?) = some (j + 1) := by decide

theorem tableIP_undoes_tableFP : ∀ j < 64, (tableIP[j]?.bind fun p => tableFP[p - 1]?) = some (j + 1) := by decide

theorem permute_FP_IP (v : Block) : permute tableFP 64 (permute tableIP 64 v : Block) = v :=
  permute_permute_cancel (by decide) (by decide) tableFP_undoes_tableIP v

theorem permute_IP_FP (v : Block) : permute tableIP 64 (permute tableFP 64 v : Block) = v :=
  permute_permute_cancel (by decide) (by decide) tableIP_undoes_tableFP v

theorem desRounds_cons (l r : BitVec 32) (k : BitVec 48) (ks : List (BitVec 48)) :
    desRounds l r (k :: ks) = desRounds r (l ^^^ desF r k) ks := rfl

theorem desRounds_append (l r : BitVec 32) (ks ks' : List (BitVec 48)) :
    desRounds l r (ks ++ ks') = desRounds (desRounds l r ks).1 (desRounds l r ks).2 ks' := by
  induction ks generalizing l r with
  | nil => rfl
  | cons k ks ih => exact ih r (l ^^^ desF r k)

/-- A Feistel network undoes itself: each round key's second use cancels its first. -/
theorem desRounds_reverse (l r : BitVec 32) (ks : List (BitVec 48)) :
    desRounds (desRounds l r ks).2 (desRounds l r ks).1 ks.reverse = (r, l) := by
  induction ks generalizing l r with
  | nil => rfl
  | cons k ks ih =>
    calc desRounds (desRounds l r (k :: ks)).2 (desRounds l r (k :: ks)).1 (k :: ks).reverse
      _ = desRounds (l ^^^ desF r k) r [k] := by
        rw [List.reverse_cons, desRounds_append, desRounds_cons l, ih r (l ^^^ desF r k)]
      _ = (r, l ^^^ desF r k ^^^ desF r k) := rfl
      _ = (r, l) := by rw [BitVec.xor_assoc, BitVec.xor_self, BitVec.xor_zero]

/-- The rounds and the final swap on a whole block (R242). -/
def swappedRounds (ks : List (BitVec 48)) (v : Block) : Block :=
  (desRounds (slice v 0 32) (slice v 32 64) ks).2 ++ (desRounds (slice v 0 32) (slice v 32 64) ks).1

theorem desWith_eq (ks : List (BitVec 48)) (m : Block) :
    desWith ks m = permute tableFP 64 (swappedRounds ks (permute tableIP 64 m)) := rfl

theorem slice_append_left (l r : BitVec 32) : slice (l ++ r) 0 32 = l := BitVec.extractLsb'_append_eq_left

theorem slice_append_right (l r : BitVec 32) : slice (l ++ r) 32 64 = r := BitVec.extractLsb'_append_eq_right

theorem slice_append_slice (v : Block) : (slice v 0 32 : BitVec 32) ++ (slice v 32 64 : BitVec 32) = v := by
  refine eq_of_bitAt_eq fun j hj => ?_
  rw [bitAt, BitVec.getMsbD_append]
  split
  · next hright =>
    calc bitAt (slice v 32 64) (j - 32) = bitAt v (32 + (j - 32)) := bitAt_slice v (by decide) (by omega)
      _ = bitAt v j := by rw [Nat.add_sub_cancel' hright]
  · next hleft =>
    calc bitAt (slice v 0 32) j = bitAt v (0 + j) := bitAt_slice v (by decide) (by omega)
      _ = bitAt v j := by rw [Nat.zero_add]

theorem swappedRounds_reverse (ks : List (BitVec 48)) (v : Block) :
    swappedRounds ks.reverse (swappedRounds ks v) = v := by
  rw [swappedRounds, swappedRounds, slice_append_left, slice_append_right, desRounds_reverse]
  exact slice_append_slice v

theorem desWith_reverse (ks : List (BitVec 48)) (m : Block) : desWith ks.reverse (desWith ks m) = m := by
  rw [desWith_eq, desWith_eq, permute_IP_FP, swappedRounds_reverse, permute_FP_IP]

theorem desDecrypt_desEncrypt (k m : Block) : desDecrypt k (desEncrypt k m) = m := desWith_reverse (roundKeys k) m

theorem tdesEncrypt_of_equal_halves {k : Key} (h : leftHalf k = rightHalf k) (b : Block) :
    tdesEncrypt k b = desEncrypt (leftHalf k) b := by
  rw [tdesEncrypt, ← h, desDecrypt_desEncrypt]

/-- Settles O55: with equal halves the decryption in the middle undoes the first encryption. -/
theorem equalHalvesGiveSingleDes : Obligations.EqualHalvesGiveSingleDes := by
  refine ⟨fun k b => cipherTenc_des k b, fun k b h => ?equalHalves, desDecrypt_desEncrypt⟩
  case equalHalves => rw [cipherTenc_des, cipherSenc_des, tdesEncrypt_of_equal_halves h]

/-- The textbook DES example, the first row of R246. -/
theorem desEncrypt_example : desEncrypt 0x133457799BBCDFF1 0x0123456789ABCDEF = 0x85E813540F0AB405 := by decide +kernel

/-- Settles O56: the rows of the textbook key follow from its first one, by the decryption that undoes it, its parity
bits and its use as both halves; the other two are evaluated. -/
theorem theDefaultCipherMeetsItsCheckVectors : Obligations.TheDefaultCipherMeetsItsCheckVectors := by
  refine ⟨desEncrypt_example, ?decrypt, ?parity, by decide +kernel, by decide +kernel, ?equalHalves⟩
  case decrypt => rw [← desEncrypt_example, desDecrypt_desEncrypt]
  case parity =>
    have hkeys : AgreeOn (· % 8 ≠ 7) (0x123556789ABDDEF0 : Block) 0x133457799BBCDFF1 := agreeOn_of_lt (by decide)
    rw [desEncrypt_congr hkeys, desEncrypt_example]
  case equalHalves =>
    rw [cipherTenc_des, tdesEncrypt_of_equal_halves (by decide)]
    exact congrArg some desEncrypt_example

end Sys2Proof.Machine
end

/-! The errors of a command and the code each completion shows (spec/60_exceptions.md R260 to R267). -/

section
namespace Sys2Proof.Machine

theorem selfEncrypt_failsByCallOnly (c : Cipher) (dk : Key) : FailsByCallOnly (selfEncrypt c dk) :=
  (failsByCallOnly_callTenc c _ _).andThen fun _ =>
    (failsByCallOnly_callTenc c _ _).andThen fun _ => failsByCallOnly_pure _

theorem computeDataKeyVariant_failsByCallOnly (cfg : Config) (bdk : Key) (ksn : Ksn) :
    FailsByCallOnly (computeDataKeyVariant cfg bdk ksn) :=
  (computeKey_failsByCallOnly cfg bdk ksn _).andThen fun _ =>
    (selfEncrypt_failsByCallOnly _ _).andThen fun _ => failsByCallOnly_pure _

section runOf
variable {i : Instr} {cfg : Config} {snap : Snapshot}

/-- Past its length check, where it has one, a command fails by a failing call only. -/
theorem runOf_failsByCallOnly (h : ComputesUsageKey i → LengthsAccepted cfg.ksnOverlength snap.len) :
    FailsByCallOnly (runOf i cfg snap) := by
  cases i with
  | advance => exact (advance_failsByCallOnly _ _ _).andThen fun _ => failsByCallOnly_pure _
  | deriveIpek => exact (deriveIpek_failsByCallOnly _ _ _).andThen fun _ => failsByCallOnly_pure _
  | deriveSession => exact deriveSession_failsByCallOnly _ _ _
  | applyMask u => exact failsByCallOnly_pure _
  | computeKey u =>
    rw [runOf, runComputeKey, checkLengths_of_accepted (h (.inl ⟨u, rfl⟩)), Run.pure_andThen]
    exact computeKey_failsByCallOnly _ _ _ _
  | computeDataKeyVariant =>
    rw [runOf, runComputeDataKeyVariant, checkLengths_of_accepted (h (.inr rfl)), Run.pure_andThen]
    exact computeDataKeyVariant_failsByCallOnly _ _ _

/-- Lengths that are not accepted end the command in their own error, whatever the rest of it would say. -/
theorem runOf_of_lengths_not_accepted (hi : ComputesUsageKey i) (h : ¬ LengthsAccepted cfg.ksnOverlength snap.len) :
    runOf i cfg snap =
      Run.raise (if bdkLen snap.len ≠ requiredBdkLen then .invalidKeyLength else .invalidKsnLength) := by
  obtain ⟨f, hf⟩ := runOf_eq_checkLengths_andThen hi cfg
  rw [hf, checkLengths_of_not_accepted h, Run.raise_andThen]

theorem runOf_ne_lengthMismatch : (runOf i cfg snap).result ≠ .error .lengthMismatch := by
  by_cases h : ComputesUsageKey i → LengthsAccepted cfg.ksnOverlength snap.len
  · exact fun herror => nomatch runOf_failsByCallOnly h _ herror
  · obtain ⟨hi, hlengths⟩ := Classical.not_imp.1 h
    rw [runOf_of_lengths_not_accepted hi hlengths]
    split <;> simp

end runOf

theorem commandRun_ne_lengthMismatch (cfg : Config) (snap : Snapshot) :
    (commandRun cfg snap).result ≠ .error .lengthMismatch := by
  cases hd : decode snap.cmd with
  | ok i => exact commandRun_of_decode cfg hd ▸ runOf_ne_lengthMismatch
  | error e => simp [commandRun_of_illegal cfg hd]

/-- Settles O49: the errors of a run are those of its length check and CipherFailure; APPLY_MASK makes no call, and
DERIVE_SESSION none with the counter 0. -/
theorem lengthMismatchNeverHappens : Obligations.LengthMismatchNeverHappens := by
  refine fun cfg snap => ⟨commandRun_ne_lengthMismatch cfg snap, fun u hfail => ?applyMask,
    fun hfail hzero => ?deriveSession⟩
  case applyMask => cases hfail
  case deriveSession =>
    have hrun : runOf .deriveSession cfg snap = Run.pure (snap.kin, 0) := deriveSession_of_counter_zero _ _ hzero
    rw [hrun] at hfail
    cases hfail

/-! The code a completion shows. -/

/-- The KSN's length is at fault: too short, or too long where the build rejects that (R262). -/
def KsnLengthFaulty (policy : KsnOverlength) (len : Word) : Prop :=
  (len.extractLsb' 16 16).toNat < 80 ∨ (80 < (len.extractLsb' 16 16).toNat ∧ policy = .reject)

theorem lengthsAccepted_iff_not_faulty {policy : KsnOverlength} {len : Word} :
    LengthsAccepted policy len ↔ (len.extractLsb' 0 16).toNat = 128 ∧ ¬ KsnLengthFaulty policy len := by
  cases policy with
  | accept => simp [LengthsAccepted, KsnLengthFaulty]
  | reject =>
    simp only [LengthsAccepted, KsnLengthFaulty, reduceCtorEq, imp_false, and_true]
    omega

theorem complete_err_of_failsByCallOnly {x : Run (Key × Nat)} (h : FailsByCallOnly x) (s : State) :
    (complete s x.result).err = 0 ∨ (complete s x.result).err = 4 := by
  obtain ⟨k, n, -, ht⟩ | ⟨e, herror, ht⟩ := complete_cases s x.result <;> rw [ht]
  · exact .inl rfl
  · exact .inr (h e herror ▸ rfl)

/-- The code of a completion of a command that checks the lengths: 1, else 2, else 0 or 4. -/
theorem complete_err_of_computesUsageKey {i : Instr} (hi : ComputesUsageKey i) (s : State) :
    ((s.snap.len.extractLsb' 0 16).toNat ≠ 128 ∧ (complete s (runOf i s.cfg s.snap).result).err = 1) ∨
    (((s.snap.len.extractLsb' 0 16).toNat = 128 ∧ KsnLengthFaulty s.cfg.ksnOverlength s.snap.len) ∧
      (complete s (runOf i s.cfg s.snap).result).err = 2) ∨
    (LengthsAccepted s.cfg.ksnOverlength s.snap.len ∧
      ((complete s (runOf i s.cfg s.snap).result).err = 0 ∨ (complete s (runOf i s.cfg s.snap).result).err = 4)) := by
  by_cases haccepted : LengthsAccepted s.cfg.ksnOverlength s.snap.len
  · exact .inr (.inr ⟨haccepted, complete_err_of_failsByCallOnly (runOf_failsByCallOnly fun _ => haccepted) s⟩)
  · rw [runOf_of_lengths_not_accepted hi haccepted, Run.raise_result, complete_error, fail_err]
    by_cases hbdk : bdkLen s.snap.len = requiredBdkLen
    · rw [if_neg (not_not.2 hbdk)]
      have hksn : KsnLengthFaulty s.cfg.ksnOverlength s.snap.len := by
        by_contra hksn
        exact haccepted (lengthsAccepted_iff_not_faulty.2 ⟨hbdk, hksn⟩)
      exact .inr (.inl ⟨⟨hbdk, hksn⟩, rfl⟩)
    · rw [if_pos hbdk]
      exact .inl ⟨hbdk, rfl⟩

/-- Settles O50: an illegal word runs nothing, the length check comes before every call, and past it only a call
fails. -/
theorem theFirstErrorWins : Obligations.TheFirstErrorWins := by
  intro s hbusy
  refine ⟨_, completionTurn_of_busy hbusy, fun ⟨e, hd⟩ => ?illegal, fun i hd hcommand => ?lengths,
    fun i hd hcommand => ?calls, fun u hd => ?applyMask⟩
  case illegal => rw [complete_of_illegal hd]; rfl
  all_goals rw [commandRun_of_decode _ hd]
  case lengths =>
    obtain ⟨hbdk, herr⟩ | ⟨⟨hbdk, hksn⟩, herr⟩ | ⟨haccepted, herr⟩ :=
      complete_err_of_computesUsageKey hcommand.symm s
    · exact ⟨iff_of_true herr hbdk, iff_of_false (by simp [herr]) fun h => hbdk h.1,
        iff_of_false (by simp [herr]) fun h => hbdk h.1⟩
    · exact ⟨iff_of_false (by simp [herr]) (not_not.2 hbdk), iff_of_true herr ⟨hbdk, hksn⟩,
        iff_of_false (by simp [herr]) fun h => (lengthsAccepted_iff_not_faulty.1 h).2 hksn⟩
    · obtain ⟨hbdk, hksn⟩ := lengthsAccepted_iff_not_faulty.1 haccepted
      exact ⟨iff_of_false (by rcases herr with h | h <;> simp [h]) (not_not.2 hbdk),
        iff_of_false (by rcases herr with h | h <;> simp [h]) fun h => hksn h.2, iff_of_true herr haccepted⟩
  case calls =>
    refine complete_err_of_failsByCallOnly (runOf_failsByCallOnly fun hi => ?_) s
    rcases hcommand with rfl | rfl | rfl <;> simp [ComputesUsageKey] at hi
  case applyMask => rfl

end Sys2Proof.Machine
end

/-! The engine's invariant (spec/60_exceptions.md R260, R264, R266; spec/40_command_lifecycle.md R108;
spec/10_state.md R35, R38). -/

section
namespace Sys2Proof.Machine

theorem errNamed_errorCode {e : EngineError} (he : e ≠ .lengthMismatch) : ErrNamed (errorCode e) := by
  cases e with
  | lengthMismatch => exact absurd rfl he
  | _ => simp [ErrNamed, errorCode]

/-- The invariant is a matter of the engine's registers; DONE may be cleared, and the working values of a BUSY engine may
be any. -/
theorem Inv.congr {s t : State} (hs : Inv s) (herr : t.err = s.err) (hrounds : t.rounds = s.rounds)
    (hkout : t.kout = s.kout) (hseq : t.seq = s.seq) (hcmd : t.cmd = s.cmd) (hsnap : t.snap = s.snap)
    (hdone : s.done = false → t.done = false) (hwork : s.seq = .idle → t.work = s.work) : Inv t where
  errNamed := herr ▸ hs.errNamed
  roundsLegal := hrounds ▸ hs.roundsLegal
  errorLeavesNothing := by
    rw [herr, hkout, hrounds]
    exact hs.errorLeavesNothing
  busyShows := by
    rw [hseq, herr, hrounds, hsnap, hcmd]
    exact fun hbusy => (hs.busyShows hbusy).imp_left hdone
  idleHoldsNothing := by
    rw [hseq, hsnap]
    exact fun hidle => hwork hidle ▸ hs.idleHoldsNothing hidle

theorem accept_inv (s : State) (w : Word) : Inv (accept s w) where
  errNamed := .inl rfl
  roundsLegal := Nat.zero_le _
  errorLeavesNothing h := absurd rfl h
  busyShows _ := ⟨rfl, rfl, rfl, rfl⟩
  idleHoldsNothing h := nomatch h

theorem resetEngine_inv (s : State) : Inv (resetEngine s) where
  errNamed := .inl rfl
  roundsLegal := Nat.zero_le _
  errorLeavesNothing h := absurd rfl h
  busyShows h := nomatch h
  idleHoldsNothing _ := ⟨rfl, rfl⟩

theorem succeed_inv {n : Nat} (hn : n ≤ 21) (s : State) (k : Key) : Inv (succeed s k n) where
  errNamed := .inl rfl
  roundsLegal := (succeed_rounds_toNat hn s k).trans_le hn
  errorLeavesNothing h := absurd rfl h
  busyShows h := nomatch h
  idleHoldsNothing _ := ⟨rfl, rfl⟩

theorem fail_inv {e : EngineError} (he : e ≠ .lengthMismatch) (s : State) : Inv (fail s e) where
  errNamed := errNamed_errorCode he
  roundsLegal := Nat.zero_le _
  errorLeavesNothing _ := ⟨rfl, rfl⟩
  busyShows h := nomatch h
  idleHoldsNothing _ := ⟨rfl, rfl⟩

/-- A completion establishes the invariant, whatever the engine held before. -/
theorem complete_inv (s : State) (cfg : Config) (snap : Snapshot) : Inv (complete s (commandRun cfg snap).result) := by
  obtain ⟨k, n, hr, ht⟩ | ⟨e, hr, ht⟩ := complete_cases s (commandRun cfg snap).result <;> rw [ht]
  · exact succeed_inv (commandRun_rounds_le hr) s k
  · exact fail_inv (fun he => commandRun_ne_lengthMismatch cfg snap (he ▸ hr)) s

section steps
variable {s : State} (hs : Inv s)
include hs

theorem writeStatus_inv (w : Word) : Inv (writeStatus s w) :=
  hs.congr rfl rfl rfl rfl rfl rfl (fun hdone => by simp [hdone]) fun _ => rfl

theorem writeReg_inv (r : RegWord) (w : Word) : Inv (writeReg s r w) := by
  obtain ⟨-, -, h⟩ | ⟨-, -, h⟩ | ⟨-, h⟩ | ⟨-, h⟩ | ⟨-, h⟩ |
      ⟨_, -, h⟩ | ⟨_, -, h⟩ | ⟨_, -, h⟩ | ⟨_, -, h⟩ | ⟨_, -, h⟩ := writeReg_cases s r w <;> rw [h]
  · exact accept_inv s w
  · exact hs.congr rfl rfl rfl rfl rfl rfl id fun _ => rfl
  · exact writeStatus_inv hs w
  all_goals exact hs.congr rfl rfl rfl rfl rfl rfl id fun _ => rfl

theorem giveReply_inv (r : Reply) : Inv (giveReply s r) :=
  hs.congr rfl rfl rfl rfl rfl rfl id fun _ => rfl

theorem hostGoto_inv (pc : Nat) : Inv (hostGoto s pc) :=
  hs.congr rfl rfl rfl rfl rfl rfl id fun _ => rfl

theorem hostStore_inv (name : Nat) (w : Word) : Inv (hostStore s name w) :=
  hs.congr rfl rfl rfl rfl rfl rfl id fun _ => rfl

theorem popTurn_inv : Inv (popTurn s) :=
  hs.congr rfl rfl rfl rfl rfl rfl id fun _ => rfl

theorem performAccess_inv (a : Access) : Inv (performAccess s a) := by
  obtain ⟨-, h⟩ | ⟨r, -, -, h⟩ | ⟨r, w, -, -, h⟩ := performAccess_cases s a <;> rw [h]
  · exact giveReply_inv hs _
  · exact giveReply_inv hs _
  · exact giveReply_inv (writeReg_inv hs r w) _

theorem hostTurn_inv {t : State} (h : hostTurn s = .next t) : Inv t := by
  obtain rfl | ⟨r, w, pc, rfl⟩ | ⟨r, name, pc, rfl⟩ | ⟨pc, rfl⟩ := hostTurn_cases h
  · exact hs
  · exact hostGoto_inv (giveReply_inv (writeReg_inv hs r w) _) pc
  · exact hostGoto_inv (hostStore_inv (giveReply_inv hs _) name _) pc
  · exact hostGoto_inv hs pc

theorem tick_inv : Inv (tick s) := by
  cases hseq : s.seq with
  | idle => rwa [tick_of_idle hseq]
  | busy =>
    rw [tick_of_busy hseq]
    exact hs.congr rfl rfl rfl rfl rfl rfl id fun hidle => nomatch hseq.symm.trans hidle

end steps

/-- Settles O3: an acceptance, a completion and a reset establish the invariant, and everything else a step can do keeps
it. -/
theorem everyStepKeepsTheInvariant : Obligations.EveryStepKeepsTheInvariant := by
  intro s t hs h
  have hpop := popTurn_inv hs
  obtain hhost | ⟨a, rfl⟩ | rfl | ⟨-, rfl⟩ | ⟨-, rfl⟩ | rfl := step_cases h
  · exact hostTurn_inv hpop hhost
  · exact performAccess_inv hpop a
  · exact tick_inv hpop
  · exact complete_inv _ _ _
  · exact hpop
  · exact resetEngine_inv _

end Sys2Proof.Machine
end

/-! Reset (spec/70_reset_and_hazards.md R290, R291). -/

section
namespace Sys2Proof.Machine

theorem statusWord_resetEngine (s : State) : statusWord (resetEngine s) = 0 :=
  show statusWord State.reset = 0 by decide

theorem ctrlWord_resetEngine (s : State) : ctrlWord (resetEngine s) = 0 :=
  show ctrlWord State.reset = 0 by decide

theorem step_resets {s : State} {ts : List Turn} (hts : s.turns = .reset :: ts) :
    step s = .next (resetEngine { s with turns := ts }) :=
  step_of_turns_cons hts

/-- Settles O1: the step is the reset, whatever the engine was doing. -/
theorem resetGivesTheResetValues : Obligations.ResetGivesTheResetValues := fun _ _ hts =>
  ⟨_, step_resets hts, rfl, statusWord_resetEngine _, ctrlWord_resetEngine _, rfl, rfl, rfl, rfl, rfl, rfl, rfl, rfl, rfl,
    rfl, rfl, rfl, rfl, rfl⟩

/-- Settles O2: the reset state is a reset engine, IDLE, and its host has read nothing. -/
theorem resetStateMeetsTheInvariants : Obligations.ResetStateMeetsTheInvariants :=
  ⟨resetEngine_inv State.reset, workFollowsSnapshot_of_idle rfl, List.Pairwise.nil⟩

end Sys2Proof.Machine
end

/-! The interrupt output (spec/60_exceptions.md R270). -/

section
namespace Sys2Proof.Machine

theorem irq_of_done_eq_false {s : State} (h : s.done = false) : irq s = false := by
  rw [irq, h, Bool.and_false]

theorem irq_of_ie_eq_false {s : State} (h : s.ie = false) : irq s = false := by
  rw [irq, h, Bool.false_and]

theorem irq_complete {s : State} (hie : s.ie = true) (r : Except EngineError (Key × Nat)) :
    irq (complete s r) = true := by
  rw [irq, complete_done, (complete_frame s r).ie, hie, Bool.and_self]

/-- Settles O27: a completion sets DONE; the STATUS write and the acceptance clear it, the CTRL write clears IE, and a
dropped CMD write touches neither. -/
theorem interruptIsEnableAndDone : Obligations.InterruptIsEnableAndDone := by
  refine fun s => ⟨rfl, fun hbusy hie => ⟨_, completionTurn_of_busy hbusy, irq_complete hie _⟩,
    fun w hw => irq_of_done_eq_false ?statusWrite, fun w hidle => irq_of_done_eq_false ?accepted,
    fun w hw => irq_of_ie_eq_false hw, fun w hbusy => ?dropped⟩
  case statusWrite =>
    show (writeStatus s w).done = false
    rw [writeStatus_done, hw, Bool.not_true, Bool.and_false]
  case accepted => rw [busWrite_cmd, writeCmd_of_idle hidle, accept_done]
  case dropped =>
    rw [busWrite_cmd, writeCmd_of_busy hbusy]
    rfl

end Sys2Proof.Machine
end

/-! A running command and the accesses made meanwhile (spec/20_memory.md R72; spec/70_reset_and_hazards.md R302). -/

section
namespace Sys2Proof.Machine

theorem performAccess_cmd_of_busy {s : State} (hbusy : s.seq = .busy) (a : Access) :
    (performAccess s a).cmd = s.cmd := by
  obtain ⟨-, h⟩ | ⟨r, -, -, h⟩ | ⟨r, w, -, -, h⟩ := performAccess_cases s a <;> rw [h]
  · rfl
  · rfl
  · obtain ⟨-, -, -, hcmd, -⟩ := writeReg_of_busy s r w hbusy
    exact hcmd

/-- A KSN's own word, written, is read back whole: its bits past the KSN's 80 are 0. -/
theorem ksnWord_setKsnWord_ksnWord (ksn k : Ksn) {j : Nat} (hj : j < 3) :
    wordAt (ksnImage (setKsnWord ksn j (wordAt (ksnImage k) j))) j = wordAt (ksnImage k) j := by
  refine eq_of_bitAt_eq fun b hb => ?_
  rw [bitAt_ksnWord_setKsnWord_self _ _ hj hb, bitAt_ksnWord k hj hb]
  rcases Nat.lt_or_ge (32 * j + b) 80 with hin | hout
  · rw [decide_eq_true hin, Bool.true_and]
  · rw [bitAt_of_le k hout, Bool.and_false]

/-- Settles O16: an access keeps the running command, whose completion reads the build and the snapshot alone, and each
operand register stores the word written to it. -/
theorem theRunningCommandIgnoresTheHost : Obligations.TheRunningCommandIgnoresTheHost := by
  refine fun s hbusy => ⟨fun a => ?access, fun k j => ⟨wordAt_setWordAt_self s.kin _ (by omega),
    wordAt_setWordAt_self s.bdk _ (by omega)⟩, fun k j => ksnWord_setKsnWord_ksnWord s.ksn k j.isLt,
    fun d j => wordAt_setWordAt_self s.din _ (by omega)⟩
  obtain ⟨hcfg, hseq, hsnap, -⟩ := performAccess_keepsCommand hbusy a
  have hbusy' := hseq.trans hbusy
  have hturn := completionTurn_of_busy hbusy'
  rw [hcfg, hsnap] at hturn
  obtain ⟨herr, hrounds⟩ := complete_err_rounds_congr s (commandRun s.cfg s.snap).result (performAccess s a)
  exact ⟨hbusy', hsnap, performAccess_cmd_of_busy hbusy a, performAccess_kout s a, _, _, completionTurn_of_busy hbusy,
    hturn, complete_kout_congr _ _ _, herr, hrounds⟩

end Sys2Proof.Machine
end
